-- ==== Sys2Proof/Word.lean ====
section
/-! DEFINITION. Word.lean: the bit-vector widths of the DP441's lanes. Lanes carry 32-bit words (chapter 9,
introduction); an inbound sample is a 24-bit two's-complement field (R151); sequence numbers are 4 bits. -/

namespace Sys2Proof

/-- One 32-bit word of a lane. -/
abbrev Word := BitVec 32

/-- A raw 24-bit two's-complement converter sample (R151). -/
abbrev Sample := BitVec 24

/-- The word that carries an unsigned number. -/
def word (n : Nat) : Word := BitVec.ofNat 32 n

end Sys2Proof
end

