-- ==== Sys2Proof/Config.lean ====
section
/-! DEFINITION. Config.lean: the numbers that the manual fixes for every DP441. The manual leaves no result of a
command undefined, so there is no free value here (NOTES.md, assumption 1). -/

namespace Sys2Proof.Config

/-- Ticks in one second of device time (00_scope.md, Conventions). -/
def ticksPerSecond : Nat := 12800
/-- The greatest seconds of device time (R167). -/
def maxSeconds : Nat := 4294967295
/-- The greatest event ident and the greatest interval index (R97, R139). -/
def maxIdent : Nat := 4294967295
/-- The ceiling of the running and interruption durations, in ticks (R66). -/
def maxDuration : Nat := 54975581388799
/-- The clamp of a scaled sample, in centivolts (R8). -/
def maxScaled : Int := 100000
/-- The earliest position at which a crossing is accepted (R21). -/
def acceptFrom : Nat := 98
/-- The position at which a boundary is forced (R22). -/
def forceAt : Nat := 143
/-- Entries of the pre-trigger ring (R108). -/
def ringCapacity : Nat := 1144
/-- Entries of one capture block (R111). -/
def blockCapacity : Nat := 256
/-- Capture blocks in the pool (R110). -/
def blockCount : Nat := 128
/-- Entries of the capture directory (R112). -/
def directoryCapacity : Nat := 16
/-- Records of the Event Register (R98). -/
def registerCapacity : Nat := 512
/-- Records of the Interval Log (R139). -/
def logCapacity : Nat := 1008
/-- Summaries of the Summary List (R143). -/
def summaryCapacity : Nat := 4
/-- Messages waiting in the response source (R183). -/
def responseCapacity : Nat := 8
/-- Entries of the event push list (R188). -/
def eventPushCapacity : Nat := 16
/-- Entries of the interval push list (R188). -/
def intervalPushCapacity : Nat := 4
/-- The ceiling of the class counts and of the break count (R90, R136). -/
def maxCount : Nat := 65535
/-- Local ticks of silence that end CHECK or ALIGNED (R154). -/
def silenceLimit : Nat := 16
/-- Ticks after its end at which a closing interval closes at the latest (R137). -/
def closingTicks : Nat := 48

end Sys2Proof.Config
end

