-- ==== Sys2Proof/Syntax.lean ====
section
/-! DEFINITION. Syntax.lean: the steps of the DP441, one constructor per row of spec/opcode_table.json, with their
operands.

Three sorts of rows. ARRIVALS: power-on, a tick of the local oscillator, inbound frames, return-lane words and wake
activity. MESSAGES: a whole management message reaching the Command Unit (its header and its fields as R179 gives
them, each field present or absent). OCCURRENCES: a step that happens at an arrival when the state calls for it (the
fourth frame of a CHECK, a forced boundary, an interval's end, the end of a report message, ...); such a row carries
the arrival at which it happens, where more than a local tick can bring it (assumption 2). -/

namespace Sys2Proof

/-- A good inbound frame: the fields of R151 that are examined on reception. -/
structure InboundFrame where
  seq : BitVec 4
  overload : BitVec 8
  samples : Vector (BitVec 24) 8
  aux : BitVec 32
deriving DecidableEq, Repr

/-- The arrivals that move the part's time and its outbound lane. -/
inductive Arrival where
  | tick
  | frame (f : InboundFrame)
deriving DecidableEq, Repr

/-- The lane whose word ends standby (R177). -/
inductive ActivityLane where
  | inbound
  | returnLane
deriving DecidableEq, Repr

/-- The optional fields of SET CHANNEL (chapter 1.2), in field-code order. -/
structure ChannelFields where
  role : Option (BitVec 24) := none
  gain : Option (BitVec 24) := none
  offset : Option (BitVec 24) := none
  annotation : Option (BitVec 24) := none
  peak : Option (BitVec 24) := none
deriving DecidableEq, Repr

/-- The optional fields of SET PROFILE (chapter 4.2), in field-code order. -/
structure ProfileFields where
  nominal : Option (BitVec 24) := none
  mask : Option (BitVec 24) := none
  neLimit : Option (BitVec 24) := none
  bandLow : Option (BitVec 24) := none
  bandHigh : Option (BitVec 24) := none
  unom : Option (BitVec 24) := none
  intStart : Option (BitVec 24) := none
  intEnd : Option (BitVec 24) := none
  dipStart : Option (BitVec 24) := none
  dipEnd : Option (BitVec 24) := none
  swellEnd : Option (BitVec 24) := none
  swellStart : Option (BitVec 24) := none
deriving DecidableEq, Repr

/-- A cell entry of SET CLASSES: the cell, and its class code and capture action where given (R181). -/
structure CellEntry where
  cell : BitVec 24
  code : Option (BitVec 24) := none
  action : Option (BitVec 24) := none
deriving DecidableEq, Repr

/-- The optional fields and the cell list of SET CLASSES (chapter 6.1, R181). The duration bounds are wide fields. -/
structure ClassFields where
  b1 : Option (BitVec 24) := none
  b2 : Option (BitVec 24) := none
  b3 : Option (BitVec 24) := none
  b4 : Option (BitVec 24) := none
  s1 : Option (BitVec 24) := none
  s2 : Option (BitVec 24) := none
  d1 : Option (BitVec 32) := none
  d2 : Option (BitVec 32) := none
  d3 : Option (BitVec 32) := none
  d4 : Option (BitVec 32) := none
  cells : List CellEntry := []
deriving DecidableEq, Repr

/-- The optional fields of READ EVENTS (R104); the from-ident is a wide field. -/
structure ReadEventsFields where
  fromIdent : Option (BitVec 32) := none
  count : Option (BitVec 24) := none
  filter : Option (BitVec 24) := none
deriving DecidableEq, Repr

/-- The optional fields of RELEASE EVENTS (R103); the up-to ident is a wide field. -/
structure ReleaseEventsFields where
  upTo : Option (BitVec 32) := none
  watermark : Option (BitVec 24) := none
deriving DecidableEq, Repr

/-- The optional fields of SET CAPTURE (R113), in field-code order. -/
structure CaptureFields where
  pre : Option (BitVec 24) := none
  full : Option (BitVec 24) := none
  thin : Option (BitVec 24) := none
  factor : Option (BitVec 24) := none
  post : Option (BitVec 24) := none
  manual : Option (BitVec 24) := none
  maxBlocks : Option (BitVec 24) := none
  mode : Option (BitVec 24) := none
deriving DecidableEq, Repr

/-- The optional fields of READ INTERVALS (R147); the from-index is a wide field. -/
structure ReadIntervalsFields where
  fromIndex : Option (BitVec 32) := none
  count : Option (BitVec 24) := none
deriving DecidableEq, Repr

/-- The optional fields of SET OBSERVATION (R145), in field-code order. -/
structure ObservationFields where
  length : Option (BitVec 24) := none
  period : Option (BitVec 24) := none
  allowance : Option (BitVec 24) := none
  coverage : Option (BitVec 24) := none
deriving DecidableEq, Repr

/-- The fields of SET TIME (R171); the seconds are a wide field. -/
structure TimeFields where
  seconds : Option (BitVec 32) := none
  tick : Option (BitVec 24) := none
deriving DecidableEq, Repr

/-- The optional fields of SET WAKE (R176). -/
structure WakeFields where
  timer : Option (BitVec 24) := none
  inbound : Option (BitVec 24) := none
deriving DecidableEq, Repr

/-- The optional fields of SET REPORTS (R186), in field-code order. -/
structure ReportFields where
  response : Option (BitVec 24) := none
  notice : Option (BitVec 24) := none
  event : Option (BitVec 24) := none
  interval : Option (BitVec 24) := none
  capture : Option (BitVec 24) := none
  eventOn : Option (BitVec 24) := none
  intervalOn : Option (BitVec 24) := none
deriving DecidableEq, Repr

/-- The steps of the part: one constructor per row of spec/opcode_table.json. -/
inductive Instr where
  /-- POWER_ON (R167): the one reset. -/
  | powerOn
  /-- LOCAL_OSCILLATOR_TICK (R168). -/
  | localOscillatorTick
  /-- GOOD_INBOUND_FRAME (R155): a good frame as R153 groups it. -/
  | goodInboundFrame (f : InboundFrame)
  /-- BAD_INBOUND_FRAME (R159): the words of a bad frame or bad candidate, as they arrive on the inbound lane. -/
  | badInboundFrame (words : List (BitVec 32))
  /-- CHECK_COUNT_REACHES_FOUR (R155): the fourth consecutive good frame of a CHECK. -/
  | checkCountReachesFour (f : InboundFrame)
  /-- SILENCE_COUNT_EXPIRY (R154): the local tick at which the silence count reaches 16. -/
  | silenceCountExpiry
  /-- LINK_TIMEOUT_EXPIRY (R154): the local tick at which the link timeout is reached. -/
  | linkTimeoutExpiry
  /-- FORCED_BOUNDARY (R22): the frame that forces a synthetic boundary. -/
  | forcedBoundary (f : InboundFrame)
  /-- SEGMENT_END (R40): the frame that decides the boundary ending a segment. -/
  | segmentEnd (f : InboundFrame)
  /-- CAPTURE_SPAN_END (R118): the frame that decides the boundary ending a FULL or THIN span. -/
  | captureSpanEnd (f : InboundFrame)
  /-- POST_TRIGGER_COUNT_END (R121): the frame that decides the P-th boundary of a post-trigger count. -/
  | postTriggerCountEnd (f : InboundFrame)
  /-- MANUAL_CAPTURE_END (R121): the frame that decides the last boundary of the manual length. -/
  | manualCaptureEnd (f : InboundFrame)
  /-- INTERVAL_END (R137): the arrival whose advance of device time reaches the open interval's end. -/
  | intervalEnd (a : Arrival)
  /-- CLOSING_INTERVAL_TIMEOUT (R137): the arrival whose advance reaches E plus 48 ticks. -/
  | closingIntervalTimeout (a : Arrival)
  /-- OBSERVATION_PERIOD_END (R143): the arrival whose interval close completes the observation period. -/
  | observationPeriodEnd (a : Arrival)
  /-- WAKE_ON_ACTIVITY (R177): a word on the inbound or the return lane in standby. -/
  | wakeOnActivity (lane : ActivityLane)
  /-- WAKE_TIMER_EXPIRY (R177): the local tick at which the wake countdown reaches 0. -/
  | wakeTimerExpiry
  /-- RETURN_FRAME (R164): one or two words arriving on the return lane, in order. -/
  | returnFrame (word0 : BitVec 32) (word1 : Option (BitVec 32))
  /-- UNKNOWN_COMMAND (R182): a RECORDER message whose command code names no command. -/
  | unknownCommand (code : BitVec 7)
  /-- FRONT_END_RELAY (R165): a FRONT END message with its command code and payload words. -/
  | frontEndRelay (code : BitVec 7) (payload : List (BitVec 32))
  /-- RELAY_COMPLETE (R165): the local tick at which the last relay frame is sent. -/
  | relayComplete
  /-- START (R11), with the optional segment-cycles field (R30). -/
  | start (cycles : Option (BitVec 24))
  /-- STOP (R15). -/
  | stop
  /-- CLEAR_RECORDS (R184). -/
  | clearRecords
  /-- CLEAR_RECORDS_COMPLETE (R184): the clearing has come to its end. -/
  | clearRecordsComplete
  /-- SET_CHANNEL (R3, R4). -/
  | setChannel (selector : BitVec 16) (fields : ChannelFields)
  /-- GET_CHANNEL (R7). -/
  | getChannel (selector : BitVec 16)
  /-- SET_PROFILE (R51). -/
  | setProfile (selector : BitVec 16) (fields : ProfileFields)
  /-- GET_PROFILE (R56). -/
  | getProfile (selector : BitVec 16)
  /-- SELECT_WRITE_SET (R55). -/
  | selectWriteSet (selector : BitVec 16)
  /-- SWITCH_PROFILE (R57). -/
  | switchProfile (selector : BitVec 16)
  /-- SET_CLASSES (R91). -/
  | setClasses (fields : ClassFields)
  /-- GET_CLASSES (R93). -/
  | getClasses (selector : BitVec 16)
  /-- CLEAR_COUNTS (R94). -/
  | clearCounts
  /-- READ_EVENTS (R104). -/
  | readEvents (fields : ReadEventsFields)
  /-- RELEASE_EVENTS (R103). -/
  | releaseEvents (fields : ReleaseEventsFields)
  /-- RETAIN (R102). -/
  | retain
  /-- SET_CAPTURE (R113). -/
  | setCapture (fields : CaptureFields)
  /-- TRIGGER (R125). -/
  | trigger
  /-- LIST_CAPTURES (R126). -/
  | listCaptures
  /-- READ_CAPTURE (R127), with the optional start position. -/
  | readCapture (ident : BitVec 16) (position : Option (BitVec 24))
  /-- RELEASE_CAPTURE (R129). -/
  | releaseCapture (ident : BitVec 16)
  /-- READ_INTERVALS (R147). -/
  | readIntervals (fields : ReadIntervalsFields)
  /-- SET_OBSERVATION (R145, R146). -/
  | setObservation (fields : ObservationFields)
  /-- READ_SUMMARIES (R148). -/
  | readSummaries
  /-- SET_TIME (R171). -/
  | setTime (fields : TimeFields)
  /-- GET_TIME (R173). -/
  | getTime
  /-- SET_WAKE (R176). -/
  | setWake (fields : WakeFields)
  /-- STANDBY (R174). -/
  | standby
  /-- SET_LINK (R186), with the optional link timeout. -/
  | setLink (timeout : Option (BitVec 24))
  /-- SET_REPORTS (R186). -/
  | setReports (fields : ReportFields)
  /-- SET_NOTICES (R190), with the optional enable set. -/
  | setNotices (enables : Option (BitVec 24))
  /-- ACK_NOTICES (R192), with the optional cause set. -/
  | ackNotices (causes : Option (BitVec 24))
  /-- GET_STATUS (R185). -/
  | getStatus
  /-- IDENTIFY (R185). -/
  | identify
  /-- RESPONSE_PLACED (R183): the arrival at which a waiting response finds a place. -/
  | responsePlaced (a : Arrival)
  /-- STREAM_ITEM_SENT (R104): the arrival whose report word ends a stream item. -/
  | streamItemSent (a : Arrival)
  /-- END_MESSAGE_SENT (R182): the arrival whose report word ends a stream's end message. -/
  | endMessageSent (a : Arrival)
  /-- EVENT_PUSH_SENT (R189): the arrival whose report word ends an event push of phase CLOSE. -/
  | eventPushSent (a : Arrival)
  /-- NOTICE_SENT (R191): the arrival whose report word ends a notice. -/
  | noticeSent (a : Arrival)
  /-- READOUT_END (R128): the arrival whose report word ends the last block message of a readout. -/
  | readoutEnd (a : Arrival)
deriving DecidableEq, Repr

end Sys2Proof
end

