-- ==== Sys2Proof/Machine/State.lean ====
section
/-! DEFINITION. Machine/State.lean: everything the DP441 holds, as plain data, one structure per block of the manual
(00_scope.md, block table), the values after power-on, and one update function per block. Values the manual counts or
compares (centivolts, permille, ticks, idents) are numbers; what it treats as bits (samples, words, sets sent as one
word) are bit vectors. -/

namespace Sys2Proof.Machine

/-! ## Small types -/

/-- Device time: seconds and tick within second (R167). Durations are held in the same form (00_scope.md). -/
structure DeviceTime where
  sec : Nat
  tick : Nat
deriving DecidableEq, Repr

/-- A phase channel (00_scope.md, Terms). -/
inductive Phase where
  | l1 | l2 | l3
deriving DecidableEq, Repr

/-- An evaluated channel. -/
inductive Channel where
  | l1 | l2 | l3 | ne
deriving DecidableEq, Repr

/-- The phase channels in the order L1, L2, L3. -/
def phases : List Phase := [.l1, .l2, .l3]

/-- The evaluated channels in the order L1, L2, L3, NE (R2). -/
def channels : List Channel := [.l1, .l2, .l3, .ne]

/-- The channel of a phase. -/
def Phase.channel : Phase → Channel
  | .l1 => .l1
  | .l2 => .l2
  | .l3 => .l3

/-- One value per phase channel. -/
structure PerPhase (α : Type) where
  l1 : α
  l2 : α
  l3 : α
deriving DecidableEq, Repr

/-- One value per evaluated channel. -/
structure PerChannel (α : Type) where
  l1 : α
  l2 : α
  l3 : α
  ne : α
deriving DecidableEq, Repr

def PerPhase.get {α : Type} (v : PerPhase α) : Phase → α
  | .l1 => v.l1
  | .l2 => v.l2
  | .l3 => v.l3

def PerPhase.set {α : Type} (v : PerPhase α) (p : Phase) (x : α) : PerPhase α :=
  match p with
  | .l1 => { v with l1 := x }
  | .l2 => { v with l2 := x }
  | .l3 => { v with l3 := x }

def PerPhase.map {α β : Type} (g : α → β) (v : PerPhase α) : PerPhase β := ⟨g v.l1, g v.l2, g v.l3⟩

/-- The value that a function gives each phase. -/
def PerPhase.of {α : Type} (g : Phase → α) : PerPhase α := ⟨g .l1, g .l2, g .l3⟩

def PerPhase.toList {α : Type} (v : PerPhase α) : List α := [v.l1, v.l2, v.l3]

def PerChannel.get {α : Type} (v : PerChannel α) : Channel → α
  | .l1 => v.l1
  | .l2 => v.l2
  | .l3 => v.l3
  | .ne => v.ne

def PerChannel.map {α β : Type} (g : α → β) (v : PerChannel α) : PerChannel β := ⟨g v.l1, g v.l2, g v.l3, g v.ne⟩

/-- The value that a function gives each channel. -/
def PerChannel.of {α : Type} (g : Channel → α) : PerChannel α := ⟨g .l1, g .l2, g .l3, g .ne⟩

def PerChannel.toList {α : Type} (v : PerChannel α) : List α := [v.l1, v.l2, v.l3, v.ne]

/-! ## Frame Link Unit (R150) -/

inductive LaneState where
  | hunt | check | aligned | lost
deriving DecidableEq, Repr

/-- What is kept of a frame taken: its samples and overload flags. -/
structure FrameContent where
  samples : Vector (BitVec 24) 8
  overload : BitVec 8
deriving DecidableEq, Repr

/-- The return word position (R164); `discard` awaits the second word of a waking frame (R177). -/
inductive ReturnPosition where
  | word0
  | word1 (held : Word)
  | discard
deriving DecidableEq, Repr

structure FrameLink where
  lane : LaneState
  lastSeq : Option (BitVec 4)
  lastFrame : Option FrameContent
  checkCount : Nat
  silence : Nat
  /-- Local ticks since the timeout reference: the reference's moment as a count (R154). -/
  sinceReference : Nat
  timeoutPassed : Bool
  linkTimeout : Nat
  /-- The outbound sequence number that the next outbound frame carries (R161). -/
  outSeq : BitVec 4
  relay : List Word
  returnPosition : ReturnPosition
  /-- The words of the frame or candidate being grouped (R153). -/
  inboundWords : List Word
  /-- The lane left ALIGNED for HUNT and has not been LOST since (R156). -/
  breakDue : Bool
deriving DecidableEq, Repr

/-! ## Channel Conditioner (R1, R10) -/

inductive Role where
  | pass | l1 | l2 | l3 | ne
deriving DecidableEq, Repr

inductive Annotation where
  | plain | event | peak
deriving DecidableEq, Repr

/-- A gain and offset pair. -/
structure GainOffset where
  gain : Nat
  offset : Int
deriving DecidableEq, Repr

/-- One entry of the Channel Table (R1). -/
structure ChannelEntry where
  role : Role
  gain : Nat
  offset : Int
  annotation : Annotation
  peak : Nat
  awaiting : Option GainOffset
deriving DecidableEq, Repr

inductive MeasurementState where
  | stopped | starting | running | suspended
deriving DecidableEq, Repr

/-- A raw frame kept for rescaling, with the device time it had when it was taken: a segment end is delivered with the
time of its boundary frame in the count of that moment (R24, R40, R140). -/
structure KeptFrame where
  content : FrameContent
  time : DeviceTime
deriving DecidableEq, Repr

structure Conditioner where
  table : Vector ChannelEntry 8
  measurement : MeasurementState
  /-- The frames at positions 98 and beyond in the current half cycle (R24). -/
  kept : List KeptFrame
deriving DecidableEq, Repr

/-! ## Cycle Tracker (R17) -/

inductive TrackerState where
  | acquire | locked | hold
deriving DecidableEq, Repr

inductive Side where
  | positive | negative
deriving DecidableEq, Repr

/-- The candidate item: absent, a candidate's position with its debounce samples taken, or the count of the NONE
phase of the polarity (R19, R20). -/
inductive Candidate where
  | absent
  | crossing (position : Nat) (taken : Nat)
  | counting (side : Side) (count : Nat)
deriving DecidableEq, Repr

inductive BoundaryKind where
  | accepted | synthetic
deriving DecidableEq, Repr

structure Tracker where
  state : TrackerState
  reference : Option Phase
  /-- `none` is the polarity NONE. -/
  polarity : Option Side
  candidate : Candidate
  /-- The position that the next scaled frame takes in the current half cycle (R17's position item). -/
  position : Nat
  early : Bool
  acceptedRun : Nat
  lastGood : Nat
  /-- `none` is "not started". -/
  segmentCount : Option Nat
  segmentFrames : Nat
  segmentAccepted : Bool
  cycles : Nat
  /-- The device times, in the present count, of the frames at positions 98 and beyond in the current half cycle: the
  boundary's own time for an event that opens at it (R23, R172). -/
  lateTimes : List DeviceTime
deriving DecidableEq, Repr

/-! ## RMS Engine (R33) -/

/-- One frame of the late list. -/
structure LateEntry where
  squares : PerChannel Nat
  clipped : PerChannel Bool
  substituted : Bool
deriving DecidableEq, Repr

/-- A closed half cycle (R35). -/
structure HalfCycle where
  sums : PerChannel Nat
  clipped : PerChannel Bool
  count : Nat
  patched : Bool
  held : Bool
deriving DecidableEq, Repr

/-- The shared part of an open segment. -/
structure OpenSegment where
  count : Nat
  patched : Bool
  held : Bool
deriving DecidableEq, Repr

/-- A refreshed RMS with its marks (R36, R39). -/
structure Refreshed where
  value : Nat
  patched : Bool
  clipped : Bool
  held : Bool
deriving DecidableEq, Repr

structure RmsEngine where
  earlySums : PerChannel Nat
  earlyClipped : PerChannel Bool
  late : List LateEntry
  earlyCount : Nat
  earlyPatched : Bool
  previous : Option HalfCycle
  segmentSums : PerChannel Nat
  segmentClipped : PerChannel Bool
  segment : Option OpenSegment
  refreshed : PerPhase (Option Refreshed)
deriving DecidableEq, Repr

/-! ## Profile Store (R49, R50) -/

inductive SetName where
  | a | b
deriving DecidableEq, Repr

inductive NominalFrequency where
  | hz50 | hz60
deriving DecidableEq, Repr

/-- The per-phase fields of a threshold set, in cV and permille. -/
structure PhaseThresholds where
  unom : Nat
  intStart : Nat
  intEnd : Nat
  dipStart : Nat
  dipEnd : Nat
  swellEnd : Nat
  swellStart : Nat
deriving DecidableEq, Repr

structure ThresholdSet where
  nominal : NominalFrequency
  mask : PerPhase Bool
  phase : PerPhase PhaseThresholds
  neLimit : Nat
  bandLow : Nat
  bandHigh : Nat
deriving DecidableEq, Repr

/-- The eight levels of a phase channel, in cV (R44). -/
structure Levels where
  dipStart : Nat
  dipEnd : Nat
  intStart : Nat
  intEnd : Nat
  swellStart : Nat
  swellEnd : Nat
  bandLow : Nat
  bandHigh : Nat
deriving DecidableEq, Repr

structure ProfileStore where
  setA : ThresholdSet
  setB : ThresholdSet
  active : SetName
  write : SetName
  switchTo : Option SetName
  levels : PerPhase Levels
  neLevel : Nat
deriving DecidableEq, Repr

/-! ## Event Tracker (R63, R66) -/

inductive Detector where
  | normal | dip | intr | swell
deriving DecidableEq, Repr

/-- The kind of an open event. -/
inductive OpenKind where
  | supply | gap
deriving DecidableEq, Repr

/-- An extreme and the channel on which it was reached. -/
structure Extreme where
  value : Nat
  phase : Phase
deriving DecidableEq, Repr

/-- The event context (R66). Durations are in ticks. -/
structure EventContext where
  ident : Nat
  kind : OpenKind
  stored : Bool
  start : DeviceTime
  running : Nat
  /-- The advances since the running duration reached its ceiling. The model's own item: a boundary is acted on up to 48
  frames after its frame (R23), and with it the running duration of that frame is still known there (assumption 41). -/
  overrun : Nat
  involved : PerPhase Bool
  dip : Option Extreme
  swell : Option Extreme
  dipSeen : Bool
  swellSeen : Bool
  /-- The running duration at which the stretch in progress began. -/
  stretch : Option Nat
  interruption : Nat
  interruptionSeen : Bool
  flags : BitVec 13
  capture : Option Nat
deriving DecidableEq, Repr

structure EventTracker where
  detectors : PerPhase Detector
  context : Option EventContext
deriving DecidableEq, Repr

/-! ## Class Matrix (R87) -/

inductive CaptureAction where
  | discard | normal | priority
deriving DecidableEq, Repr

structure ClassCell where
  code : Nat
  action : CaptureAction
  count : Nat
  lost : Nat
deriving DecidableEq, Repr

structure ClassBounds where
  b1 : Nat
  b2 : Nat
  b3 : Nat
  b4 : Nat
  s1 : Nat
  s2 : Nat
  d1 : Nat
  d2 : Nat
  d3 : Nat
  d4 : Nat
deriving DecidableEq, Repr

structure ClassMatrix where
  bounds : ClassBounds
  cells : Vector ClassCell 40
deriving DecidableEq, Repr

/-! ## Event Register (R95, R96) -/

inductive RecordKind where
  | supply | gap | timestep
deriving DecidableEq, Repr

inductive SupplyKind where
  | dip | swell | interruption | mixed
deriving DecidableEq, Repr

/-- An event record (R96); a field absent in a case is `none`. -/
structure EventRecord where
  ident : Nat
  kind : RecordKind
  closed : Bool
  start : DeviceTime
  duration : Option DeviceTime
  supplyKind : Option SupplyKind
  interruption : Option DeviceTime
  involved : Option (PerPhase Bool)
  dip : Option Extreme
  swell : Option Extreme
  /-- Class code and cell number. -/
  classCell : Option (Nat × Nat)
  swellCell : Option Nat
  capture : Option Nat
  flags : BitVec 13
  /-- Old time and new time of a TIMESTEP record. -/
  times : Option (DeviceTime × DeviceTime)
deriving DecidableEq, Repr

structure EventRegister where
  records : List EventRecord
  nextIdent : Nat
  ceilingTaken : Bool
  locked : Bool
  watermark : Nat
deriving DecidableEq, Repr

/-! ## Capture Engine (R107) -/

/-- An entry of the pre-trigger ring; `opens` marks the first entry of a half cycle (R108). -/
structure RingEntry where
  samples : List Int
  time : DeviceTime
  opens : Bool
deriving DecidableEq, Repr

inductive SpanKind where
  | pre | full | thin
deriving DecidableEq, Repr

/-- A capture block (R111); its entry count is the length of `entries`. -/
structure CaptureBlock where
  kind : SpanKind
  spacing : Nat
  first : DeviceTime
  entries : List (List Int)
deriving DecidableEq, Repr

inductive CaptureOrigin where
  | event | manual
deriving DecidableEq, Repr

inductive CaptureState where
  | filling | settled | reading
deriving DecidableEq, Repr

inductive CaptureDecision where
  | undecided | keep | priority
deriving DecidableEq, Repr

/-- A directory entry (R112); its total entries are the sum over its blocks. -/
structure Capture where
  ident : Nat
  origin : CaptureOrigin
  joined : List Nat
  state : CaptureState
  decision : CaptureDecision
  start : DeviceTime
  channels : PerChannel Bool
  preHeld : Nat
  blocks : List Nat
  truncated : Bool
  joinedFlag : Bool
  /-- The discard test has succeeded during the readout: the end of the readout discards the capture (R124, R128). -/
  discardDue : Bool
deriving DecidableEq, Repr

/-- A post-trigger count in progress: boundaries counted, and the P it began with (R121). -/
structure PostCount where
  counted : Nat
  length : Nat
deriving DecidableEq, Repr

/-- The fill state of the FILLING capture (R118). -/
structure FillState where
  kind : SpanKind
  boundariesLeft : Nat
  offset : Nat
  /-- The next entry stored is the first of its span. -/
  fresh : Bool
  full : Nat
  thin : Nat
  factor : Nat
  post : Option PostCount
  /-- Boundaries left of a MANUAL capture. -/
  manualLeft : Option Nat
deriving DecidableEq, Repr

inductive CaptureMode where
  | auto | manual
deriving DecidableEq, Repr

/-- The capture settings W, F, T, D, P, manual length, maximum blocks and mode (R113). -/
structure CaptureSettings where
  pre : Nat
  full : Nat
  thin : Nat
  factor : Nat
  post : Nat
  manual : Nat
  maxBlocks : Nat
  mode : CaptureMode
deriving DecidableEq, Repr

structure CaptureEngine where
  ring : List RingEntry
  completeHalves : Nat
  ready : Bool
  blocks : Vector CaptureBlock 128
  free : List Nat
  directory : List Capture
  nextIdent : Nat
  fill : Option FillState
  settings : CaptureSettings
deriving DecidableEq, Repr

/-! ## Interval Unit (R131) -/

/-- A channel's accumulators (R133). -/
structure ChannelTotals where
  sumSquares : Nat
  count : Nat
  least : Nat
  greatest : Nat
deriving DecidableEq, Repr

/-- An interval with its accumulators; `endSec` is the seconds of its E, whose tick is 0 (R132). -/
structure Interval where
  index : Nat
  start : DeviceTime
  endSec : Nat
  length : Nat
  span : Nat
  totals : PerChannel ChannelTotals
  freqSum : Nat
  freqCount : Nat
  flags : BitVec 6
  patched : Nat
  clipped : Nat
  breaks : Nat
deriving DecidableEq, Repr

inductive Category where
  | excluded | noData | flagged | low | high | inBand
deriving DecidableEq, Repr

/-- A record of the Interval Log (R138). -/
structure IntervalRecord where
  index : Nat
  start : DeviceTime
  span : DeviceTime
  length : Nat
  rms : PerChannel (Option Nat)
  /-- Minimum and maximum segment RMS. -/
  extremes : PerChannel (Option (Nat × Nat))
  counts : PerChannel Nat
  category : PerPhase Category
  meanFreq : Option Nat
  freqCount : Nat
  flags : BitVec 6
  patched : Nat
  clipped : Nat
  breaks : Nat
  profile : SetName
deriving DecidableEq, Repr

/-- The six category counts of a phase channel (R143). -/
structure CategoryCounts where
  excluded : Nat
  noData : Nat
  flagged : Nat
  low : Nat
  high : Nat
  inBand : Nat
deriving DecidableEq, Repr

inductive Verdict where
  | insufficient | pass | fail
deriving DecidableEq, Repr

/-- A summary of an observation period (R144). -/
structure Summary where
  first : Nat
  last : Nat
  period : Nat
  allowance : Nat
  coverage : Nat
  counts : PerPhase CategoryCounts
  verdicts : PerPhase Verdict
deriving DecidableEq, Repr

structure IntervalUnit where
  current : Interval
  closing : Option Interval
  /-- Intervals whose close waits for the end of a CLEAR RECORDS (R184). -/
  deferred : List Interval
  eventMark : Bool
  log : List IntervalRecord
  /-- The interval with the greatest index has closed (R139). -/
  lastIndexClosed : Bool
  counters : PerPhase CategoryCounts
  periodClosed : Nat
  firstIndex : Option Nat
  summaries : List Summary
  /-- Summaries that have left the list: the model's own, it names a summary through a stream (R148). -/
  summariesGone : Nat
  length : Nat
  period : Nat
  allowance : Nat
  coverage : Nat
deriving DecidableEq, Repr

/-! ## Timebase (R167) -/

inductive TimeSource where
  | frame | localOsc
deriving DecidableEq, Repr

inductive PowerState where
  | run | standby
deriving DecidableEq, Repr

inductive WakeCause where
  | inboundActivity | returnActivity | wakeTimer
deriving DecidableEq, Repr

structure Timebase where
  now : DeviceTime
  source : TimeSource
  unset : Bool
  lastLoss : Option DeviceTime
  power : PowerState
  wakeTimer : Nat
  inboundWake : Bool
  countdown : Option Nat
  lastWake : Option WakeCause
deriving DecidableEq, Repr

/-! ## Report messages, Command Unit (R182, R183) and Report Arbiter (R187) -/

inductive Status where
  | done | busy | state | invalid | locked | notReady | notFound | unknown | malformed | relayed
deriving DecidableEq, Repr

inductive ResponseForm where
  | single | streamItem | endMessage
deriving DecidableEq, Repr

/-- The words of a response after its first, or the device time to be taken at the grant (R173). -/
inductive ResponseBody where
  | words (ws : List Word)
  | timeAtGrant
deriving DecidableEq, Repr

/-- A message of the response source. -/
structure Response where
  form : ResponseForm
  code : Nat
  status : Status
  body : ResponseBody
deriving DecidableEq, Repr

inductive EventFilter where
  | all | unreported
deriving DecidableEq, Repr

/-- A stream in progress: the least ident or index of the next item, the items left, the items sent and the last one
sent; for summaries, the serial number of the next one (R104, R147, R148). -/
inductive ReadStream where
  | events (next left : Nat) (filter : EventFilter) (sent : Nat) (last : Option Nat)
  | intervals (next left sent : Nat) (last : Option Nat)
  | summaries (next : Nat)
deriving DecidableEq, Repr

inductive CommandState where
  | idle | assembling | executing | streaming
deriving DecidableEq, Repr

/-- Work that keeps the Command Unit EXECUTING (R183). -/
inductive Work where
  | idle
  | relaying (code : Nat)
  | clearing
deriving DecidableEq, Repr

structure CommandUnit where
  state : CommandState
  buffer : List Word
  work : Work
  /-- A response, stream item or end message waiting for a place in the response source. -/
  waiting : Option Response
  stream : Option ReadStream
deriving DecidableEq, Repr

inductive PushPhase where
  | opened | closed
deriving DecidableEq, Repr

structure EventPush where
  ident : Nat
  phase : PushPhase
deriving DecidableEq, Repr

/-- A block waiting in the capture-data source: the capture and the block's list position (R127). -/
structure BlockMessage where
  ident : Nat
  position : Nat
deriving DecidableEq, Repr

/-- What the end of a message in transmission brings about. -/
inductive SendTag where
  | response (form : ResponseForm)
  | notice
  /-- The capture ident that the copy sent named (R106). -/
  | eventPush (push : EventPush) (named : Option Nat)
  | intervalPush
  /-- `final` marks the last block message of the readout (R128). -/
  | captureData (ident : Nat) (final : Bool)
deriving DecidableEq, Repr

/-- A message in transmission: the words not yet sent. -/
structure Sending where
  left : List Word
  tag : SendTag
deriving DecidableEq, Repr

/-- The levels of the five sources. -/
structure SourceLevels where
  response : Nat
  notice : Nat
  event : Nat
  interval : Nat
  capture : Nat
deriving DecidableEq, Repr

structure ReportArbiter where
  responses : List Response
  blockQueue : List BlockMessage
  eventPushes : List EventPush
  intervalPushes : List Nat
  levels : SourceLevels
  eventPushOn : Bool
  intervalPushOn : Bool
  sending : Option Sending
deriving DecidableEq, Repr

/-! ## Notice Unit (R190) -/

/-- Bit n is the cause in place n + 1 of the table of section 11.5. -/
structure NoticeUnit where
  requests : BitVec 13
  enables : BitVec 13
  queued : Bool
deriving DecidableEq, Repr

/-! ## What a step puts out: the model's own (assumption 3) -/

/-- An outbound frame (R151, R160, R161); its check follows from these fields. -/
structure OutboundFrame where
  seq : BitVec 4
  data : Bool
  subst : Bool
  timeLocal : Bool
  attention : Bool
  overload : BitVec 8
  samples : Vector (BitVec 24) 8
  aux : Word
  report : Word
deriving DecidableEq, Repr

/-- The rows of the table that an arrival can bring about. -/
inductive Occurrence where
  | checkCountReachesFour | silenceCountExpiry | linkTimeoutExpiry | forcedBoundary | segmentEnd | captureSpanEnd
  | postTriggerCountEnd | manualCaptureEnd | intervalEnd | closingIntervalTimeout | observationPeriodEnd
  | wakeTimerExpiry | relayComplete | responsePlaced | streamItemSent | endMessageSent | eventPushSent | noticeSent
  | readoutEnd
deriving DecidableEq, Repr

structure Outputs where
  /-- The outbound frames of the last step, oldest first. -/
  outbound : List OutboundFrame
  /-- The relayed words of the last step's relay frames. -/
  relayed : List Word
  /-- The rows that came about in the last step, in order. -/
  occurred : List Occurrence
deriving DecidableEq, Repr

end Sys2Proof.Machine

namespace Sys2Proof.Machine

/-! ## The whole state -/

/-- Everything the part holds. -/
structure State where
  fl : FrameLink
  cc : Conditioner
  ct : Tracker
  re : RmsEngine
  ps : ProfileStore
  et : EventTracker
  cm : ClassMatrix
  er : EventRegister
  ce : CaptureEngine
  iu : IntervalUnit
  tb : Timebase
  cu : CommandUnit
  ra : ReportArbiter
  nu : NoticeUnit
  out : Outputs
  /-- The commands that wait, first in, first out. -/
  pending : List Instr
deriving DecidableEq, Repr

/-- No command of this block stops it (the manual answers every message and drops every bad frame), so there is no
constructor. -/
inductive Fault where
deriving DecidableEq, Repr

/-- Why a command has no meaning. -/
inductive Refusal where
  /-- Raised by an arm of `exec` whose row has no meaning yet: safe, the machine stops. No arm raises it now. -/
  | notModelled (mnemonic : String)
deriving DecidableEq, Repr

/-! ## Power-on (R1, R17, R33, R49, R50, R63, R66, R87, R95, R107, R131, R150, R167, R182, R187, R190) -/

/-- The entry of every slot after power-on (R1). -/
def ChannelEntry.powerOn : ChannelEntry :=
  { role := .pass, gain := 65536, offset := 0, annotation := .plain, peak := 227, awaiting := none }

def FrameLink.powerOn : FrameLink :=
  { lane := .hunt, lastSeq := none, lastFrame := none, checkCount := 0, silence := 0, sinceReference := 0,
    timeoutPassed := false, linkTimeout := 1280, outSeq := 0, relay := [], returnPosition := .word0,
    inboundWords := [], breakDue := false }

def Tracker.powerOn : Tracker :=
  { state := .acquire, reference := none, polarity := none, candidate := .absent, position := 0, early := false,
    acceptedRun := 0, lastGood := 128, segmentCount := none, segmentFrames := 0, segmentAccepted := false,
    cycles := 10, lateTimes := [] }

def RmsEngine.powerOn : RmsEngine :=
  { earlySums := ⟨0, 0, 0, 0⟩, earlyClipped := ⟨false, false, false, false⟩, late := [], earlyCount := 0,
    earlyPatched := false, previous := none, segmentSums := ⟨0, 0, 0, 0⟩,
    segmentClipped := ⟨false, false, false, false⟩, segment := none, refreshed := ⟨none, none, none⟩ }

/-- The per-phase thresholds after power-on (R49). -/
def PhaseThresholds.powerOn : PhaseThresholds :=
  { unom := 23000, intStart := 50, intEnd := 70, dipStart := 900, dipEnd := 920, swellEnd := 1080,
    swellStart := 1100 }

def ThresholdSet.powerOn : ThresholdSet :=
  { nominal := .hz50, mask := ⟨true, true, true⟩,
    phase := ⟨PhaseThresholds.powerOn, PhaseThresholds.powerOn, PhaseThresholds.powerOn⟩,
    neLimit := 50, bandLow := 900, bandHigh := 1100 }

/-- The levels derived from set A at power-on (section 3.8, worked example). -/
def Levels.powerOn : Levels :=
  { dipStart := 20700, dipEnd := 21160, intStart := 1150, intEnd := 1610, swellStart := 25300, swellEnd := 24840,
    bandLow := 20700, bandHigh := 25300 }

def ProfileStore.powerOn : ProfileStore :=
  { setA := ThresholdSet.powerOn, setB := ThresholdSet.powerOn, active := .a, write := .b, switchTo := none,
    levels := ⟨Levels.powerOn, Levels.powerOn, Levels.powerOn⟩, neLevel := 1150 }

/-- Cell n after power-on: class code n, PRIORITY in cells 20 to 24 (R87). -/
def ClassCell.powerOn (n : Nat) : ClassCell :=
  { code := n, action := if 20 ≤ n ∧ n ≤ 24 then .priority else .normal, count := 0, lost := 0 }

def ClassMatrix.powerOn : ClassMatrix :=
  { bounds := ⟨800, 700, 400, 50, 1200, 1400, 200, 500, 5000, 60000⟩,
    cells := Vector.ofFn (fun i => ClassCell.powerOn i.val) }

/-- A block with no entry (R110). The manual gives no header to a block that was never taken: kind PRE, spacing 1 and
time 0 are the model's choice (assumption 31), and nothing reads them. -/
def CaptureBlock.unused : CaptureBlock := { kind := .pre, spacing := 1, first := ⟨0, 0⟩, entries := [] }

def CaptureEngine.powerOn : CaptureEngine :=
  { ring := [], completeHalves := 0, ready := false, blocks := Vector.replicate 128 CaptureBlock.unused,
    free := List.range 128, directory := [], nextIdent := 1, fill := none,
    settings := { pre := 4, full := 4, thin := 16, factor := 16, post := 8, manual := 64, maxBlocks := 32,
                  mode := .auto } }

def CategoryCounts.zero : CategoryCounts := ⟨0, 0, 0, 0, 0, 0⟩

def ChannelTotals.zero : ChannelTotals := ⟨0, 0, 0, 0⟩

/-- The interval open at power-on: aligned at time 0, with TIME_LOCAL (bit 2) and TIME_UNSET (bit 3) (R131). -/
def Interval.powerOn : Interval :=
  { index := 0, start := ⟨0, 0⟩, endSec := 600, length := 600, span := 0,
    totals := ⟨ChannelTotals.zero, ChannelTotals.zero, ChannelTotals.zero, ChannelTotals.zero⟩,
    freqSum := 0, freqCount := 0, flags := 0b001100#6, patched := 0, clipped := 0, breaks := 0 }

def IntervalUnit.powerOn : IntervalUnit :=
  { current := Interval.powerOn, closing := none, deferred := [], eventMark := false, log := [],
    lastIndexClosed := false, counters := ⟨CategoryCounts.zero, CategoryCounts.zero, CategoryCounts.zero⟩,
    periodClosed := 0, firstIndex := none, summaries := [], summariesGone := 0, length := 600, period := 1008,
    allowance := 50, coverage := 900 }

def Timebase.powerOn : Timebase :=
  { now := ⟨0, 0⟩, source := .localOsc, unset := true, lastLoss := none, power := .run, wakeTimer := 0,
    inboundWake := true, countdown := none, lastWake := none }

def CommandUnit.powerOn : CommandUnit :=
  { state := .idle, buffer := [], work := .idle, waiting := none, stream := none }

def ReportArbiter.powerOn : ReportArbiter :=
  { responses := [], blockQueue := [], eventPushes := [], intervalPushes := [],
    levels := ⟨3, 2, 1, 1, 0⟩, eventPushOn := true, intervalPushOn := true, sending := none }

def Outputs.none : Outputs := { outbound := [], relayed := [], occurred := [] }

/-- The part right after its one reset, power-on, with an empty queue. -/
def State.reset : State :=
  { fl := FrameLink.powerOn
    cc := { table := Vector.replicate 8 ChannelEntry.powerOn, measurement := .stopped, kept := [] }
    ct := Tracker.powerOn
    re := RmsEngine.powerOn
    ps := ProfileStore.powerOn
    et := { detectors := ⟨.normal, .normal, .normal⟩, context := .none }
    cm := ClassMatrix.powerOn
    er := { records := [], nextIdent := 1, ceilingTaken := false, locked := false, watermark := 448 }
    ce := CaptureEngine.powerOn
    iu := IntervalUnit.powerOn
    tb := Timebase.powerOn
    cu := CommandUnit.powerOn
    ra := ReportArbiter.powerOn
    nu := { requests := 0, enables := 0, queued := false }
    out := Outputs.none
    pending := [] }

/-! ## One update per block -/

def State.withFl (s : State) (x : FrameLink) : State := { s with fl := x }
def State.withCc (s : State) (x : Conditioner) : State := { s with cc := x }
def State.withCt (s : State) (x : Tracker) : State := { s with ct := x }
def State.withRe (s : State) (x : RmsEngine) : State := { s with re := x }
def State.withPs (s : State) (x : ProfileStore) : State := { s with ps := x }
def State.withEt (s : State) (x : EventTracker) : State := { s with et := x }
def State.withCm (s : State) (x : ClassMatrix) : State := { s with cm := x }
def State.withEr (s : State) (x : EventRegister) : State := { s with er := x }
def State.withCe (s : State) (x : CaptureEngine) : State := { s with ce := x }
def State.withIu (s : State) (x : IntervalUnit) : State := { s with iu := x }
def State.withTb (s : State) (x : Timebase) : State := { s with tb := x }
def State.withCu (s : State) (x : CommandUnit) : State := { s with cu := x }
def State.withRa (s : State) (x : ReportArbiter) : State := { s with ra := x }
def State.withNu (s : State) (x : NoticeUnit) : State := { s with nu := x }
def State.withOut (s : State) (x : Outputs) : State := { s with out := x }
def State.withPending (s : State) (x : List Instr) : State := { s with pending := x }

end Sys2Proof.Machine
end

