-- ==== Sys2Proof/Machine/Ops.lean ====
section
/-! DEFINITION. Machine/Ops.lean: the shared operations that do not belong to one block: rounding, scaling, the exact
test, permille and levels, device time, the frame check and the frame layouts. -/

namespace Sys2Proof.Machine

/-! ## Rounding and clamping (00_scope.md, Conventions) -/

/-- Clamp to a range. -/
def clamp (lo hi x : Nat) : Nat := max lo (min x hi)

/-- Clamp a signed number to a range. -/
def clampInt (lo hi x : Int) : Int := max lo (min x hi)

/-- A saturating increment. -/
def saturatingSucc (ceiling x : Nat) : Nat := if x < ceiling then x + 1 else x

/-- n / d rounded half up. -/
def roundHalfUp (n d : Nat) : Nat := (2 * n + d) / (2 * d)

/-- n / d rounded half away from zero. -/
def roundHalfAway (n : Int) (d : Nat) : Int :=
  if n < 0 then -((roundHalfUp n.natAbs d : Nat) : Int) else ((roundHalfUp n.natAbs d : Nat) : Int)

/-! ## Scaling (R8) -/

/-- The scaled sample before its clamp: the raw count less the offset, times gain over 65,536, rounded half away. -/
def scaleUnclamped (gain : Nat) (offset : Int) (raw : Sample) : Int :=
  roundHalfAway ((raw.toInt - offset) * gain) 65536

/-- The clamp of scaling (R8). -/
def clampScaled (x : Int) : Int := clampInt (-Config.maxScaled) Config.maxScaled x

/-- The scaled sample (R8). -/
def scaleSample (gain : Nat) (offset : Int) (raw : Sample) : Int := clampScaled (scaleUnclamped gain offset raw)

/-- A scaled sample is clipped when the clamp changed it or the slot's overload flag is set (R9). A sample of exactly
100,000 cV that needed no clamp is not clipped, whatever the last sentence of R38 concludes (DEDUCED, assumption 30).
-/
def sampleClipped (gain : Nat) (offset : Int) (raw : Sample) (overload : Bool) : Bool :=
  overload || decide (scaleSample gain offset raw ≠ scaleUnclamped gain offset raw)

/-! ## The exact test (R37) -/

/-- Search for the greatest r with n * (2r - 1)^2 ≤ 4q, bit by bit from bit `bits - 1`. -/
def rootSearch (q n : Nat) : Nat → Nat → Nat
  | 0, r => r
  | bits + 1, r =>
    if n * (2 * (r + 2 ^ bits) - 1) ^ 2 ≤ 4 * q then rootSearch q n bits (r + 2 ^ bits) else rootSearch q n bits r

/-- The root of q / n by the exact test (R37). It rounds, so that 255 samples of 100,000 and one of 99,999 give
100,000, whatever the last sentence of R38 concludes (DEDUCED, assumption 30). -/
def exactRoot (q n : Nat) : Nat := rootSearch q n (Nat.log2 (4 * q) + 1) 0

/-! ## Permille, levels, milliseconds -/

/-- The permille of an RMS value (R43). -/
def permille (rms unom : Nat) : Nat := min 2000 ((2 * rms * 1000 + unom) / (2 * unom))

/-- The level of a threshold (R44). -/
def level (unom t : Nat) : Nat := (unom * t + 500) / 1000

/-- A duration in ticks as milliseconds, saturated (R89). -/
def millis (ticks : Nat) : Nat := min 4294967295 (ticks * 10 / 128)

/-! ## Device time (R168) -/

/-- A count of ticks in the seconds-and-ticks form (R66). -/
def DeviceTime.ofTicks (n : Nat) : DeviceTime := ⟨n / Config.ticksPerSecond, n % Config.ticksPerSecond⟩

/-- A device time as a count of ticks. -/
def DeviceTime.toTicks (t : DeviceTime) : Nat := t.sec * Config.ticksPerSecond + t.tick

/-- One advance; at the ceiling the time stays (R168). -/
def DeviceTime.next (t : DeviceTime) : DeviceTime :=
  if t.tick + 1 < Config.ticksPerSecond then ⟨t.sec, t.tick + 1⟩
  else if t.sec < Config.maxSeconds then ⟨t.sec + 1, 0⟩
  else t

/-- The time n ticks later, for the times of capture entries (R111). -/
def DeviceTime.plus (t : DeviceTime) (n : Nat) : DeviceTime := DeviceTime.ofTicks (t.toTicks + n)

/-- The time n ticks earlier in the same count. The manual gives no time before 0 s + 0 ticks: a count back that would
pass it stays there (DESIGN CHOICE, assumption 19). -/
def DeviceTime.back (t : DeviceTime) (n : Nat) : DeviceTime := DeviceTime.ofTicks (t.toTicks - n)

/-- Strictly earlier. -/
def DeviceTime.before (t u : DeviceTime) : Bool := decide (t.toTicks < u.toTicks)

/-! ## The frame check (R152) -/

/-- One data bit into the check register. -/
def checkBit (reg : BitVec 16) (bit : Bool) : BitVec 16 :=
  if reg.getLsbD 15 == bit then reg <<< 1 else (reg <<< 1) ^^^ 0x1021#16

/-- One word into the check register: its four bytes most significant first, each most significant bit first. -/
def checkWord (reg : BitVec 16) (w : Word) : BitVec 16 :=
  (List.range 32).foldl (fun r i => checkBit r (w.getLsbD (31 - i))) reg

/-- The check over words, from FFFFh, with no final inversion. -/
def frameCheck (ws : List Word) : BitVec 16 := ws.foldl checkWord 0xFFFF#16

/-! ## Frame layouts (R151) -/

/-- The upper 16 bits of a word. -/
def marker (w : Word) : BitVec 16 := w.extractLsb' 16 16

/-- The lower 16 bits of a word. -/
def lowHalf (w : Word) : BitVec 16 := w.extractLsb' 0 16

/-- A word of two halves. -/
def halves (hi lo : BitVec 16) : Word := hi ++ lo

/-- The words 0 to 9 of an inbound frame, its ignored bits zero. -/
def inboundBody (f : InboundFrame) : List Word :=
  ((0x3C96#16 ++ f.seq ++ 0#4 ++ f.overload : BitVec 32)) ::
    (f.samples.toList.map (fun x => (x ++ 0#8 : BitVec 32)) ++ [f.aux])

/-- The eleven words of an inbound frame, its ignored bits zero. -/
def inboundWords (f : InboundFrame) : List Word :=
  inboundBody f ++ [halves 0#16 (frameCheck (inboundBody f))]

/-- A group of eleven words is a good inbound frame: the marker and the check over words 0 to 9 (R152). -/
def inboundGood (ws : List Word) : Bool :=
  ws.length == 11 && marker (ws.getD 0 0) == 0x3C96#16 && lowHalf (ws.getD 10 0) == frameCheck (ws.take 10)

/-- The fields of a group of eleven words. -/
def inboundFields (ws : List Word) : InboundFrame :=
  { seq := (ws.getD 0 0).extractLsb' 12 4
    overload := (ws.getD 0 0).extractLsb' 0 8
    samples := Vector.ofFn (fun i => (ws.getD (i.val + 1) 0).extractLsb' 8 24)
    aux := ws.getD 9 0 }

/-- The words 0 to 10 of an outbound frame. -/
def outboundBody (f : OutboundFrame) : List Word :=
  (0x3C97#16 ++ f.seq ++ BitVec.ofBool f.data ++ BitVec.ofBool f.subst ++ BitVec.ofBool f.timeLocal ++
      BitVec.ofBool f.attention ++ f.overload : BitVec 32) ::
    (f.samples.toList.map (fun x => (x ++ 0#8 : BitVec 32)) ++ [f.aux, f.report])

/-- The twelve words of an outbound frame. -/
def outboundWords (f : OutboundFrame) : List Word :=
  outboundBody f ++ [halves 0#16 (frameCheck (outboundBody f))]

/-- The two words of a return frame that carries a command word. -/
def returnWords (w : Word) : List Word := [halves 0x3C98#16 (frameCheck [w]), w]

/-- The two words of a relay frame (R151). -/
def relayWords (w : Word) : List Word := [halves 0x3C99#16 (frameCheck [w]), w]

/-! ## Steps and their outputs -/

/-- A step begins with nothing put out (assumption 3). -/
def State.begin (s : State) : State := s.withOut Outputs.none

/-- Note that a row of the table came about. -/
def State.note (s : State) (o : Occurrence) : State :=
  s.withOut { s.out with occurred := s.out.occurred ++ [o] }

end Sys2Proof.Machine
end

