-- ==== Sys2Proof/Machine/Flags.lean ====
section
/-! DEFINITION. Machine/Flags.lean: the sets that the manual sends as one word with one bit per member: event flags
(R96), interval flags (R138), causes (section 11.5), channel sets (R181); and raising a cause. -/

namespace Sys2Proof.Machine

/-! ## Event flags, in the order of R96 -/

inductive EventFlag where
  | patched | clipped | heldBoundaries | timeLocal | timeUnset | linkLoss | cutByStop | cutByGap | captureRefused
  | captureTruncated | reported | captureRemoved | detailLate
deriving DecidableEq, Repr

/-- The bit of a flag: PATCHED bit 0 through DETAIL_LATE bit 12 (R181). -/
def EventFlag.bit : EventFlag → Nat
  | .patched => 0
  | .clipped => 1
  | .heldBoundaries => 2
  | .timeLocal => 3
  | .timeUnset => 4
  | .linkLoss => 5
  | .cutByStop => 6
  | .cutByGap => 7
  | .captureRefused => 8
  | .captureTruncated => 9
  | .reported => 10
  | .captureRemoved => 11
  | .detailLate => 12

/-- The set of one flag where a condition holds, else the empty set. -/
def EventFlag.when (f : EventFlag) (c : Bool) : BitVec 13 := if c then BitVec.ofNat 13 (2 ^ f.bit) else 0

/-- The set has the flag. -/
def hasFlag (flags : BitVec 13) (f : EventFlag) : Bool := flags.getLsbD f.bit

/-- The set with one flag more. -/
def setFlag (flags : BitVec 13) (f : EventFlag) : BitVec 13 := flags ||| f.when true

/-- The register's own three flags: REPORTED, CAPTURE_REMOVED, DETAIL_LATE (R96). -/
def registerFlags : BitVec 13 := 0b1110000000000#13

/-! ## Interval flags, in the order of R138 -/

inductive IntervalFlag where
  | event | mixedProfile | timeLocal | timeUnset | timeStep | neHigh
deriving DecidableEq, Repr

/-- The bit of a flag: EVENT bit 0 through NE_HIGH bit 5 (R181). -/
def IntervalFlag.bit : IntervalFlag → Nat
  | .event => 0
  | .mixedProfile => 1
  | .timeLocal => 2
  | .timeUnset => 3
  | .timeStep => 4
  | .neHigh => 5

def IntervalFlag.when (f : IntervalFlag) (c : Bool) : BitVec 6 := if c then BitVec.ofNat 6 (2 ^ f.bit) else 0

/-- The interval carries the flag. -/
def Interval.has (v : Interval) (f : IntervalFlag) : Bool := v.flags.getLsbD f.bit

/-- The interval with a flag set where the condition holds. -/
def Interval.mark (v : Interval) (f : IntervalFlag) (c : Bool) : Interval := { v with flags := v.flags ||| f.when c }

/-! ## Causes (section 11.5) -/

inductive Cause where
  | eventOpened | eventClosed | registerWatermark | intervalClosed | observationClosed | captureSettled
  | captureEvicted | profileSwitched | spansDefaulted | linkChanged | trackerHold | woke | pushSkipped
deriving DecidableEq, Repr

/-- The bit of the cause in place n + 1 is n (R180). -/
def Cause.bit : Cause → Nat
  | .eventOpened => 0
  | .eventClosed => 1
  | .registerWatermark => 2
  | .intervalClosed => 3
  | .observationClosed => 4
  | .captureSettled => 5
  | .captureEvicted => 6
  | .profileSwitched => 7
  | .spansDefaulted => 8
  | .linkChanged => 9
  | .trackerHold => 10
  | .woke => 11
  | .pushSkipped => 12

/-- The set of one cause. -/
def Cause.set (c : Cause) : BitVec 13 := BitVec.ofNat 13 (2 ^ c.bit)

/-- The enabled causes whose request is set (R190, R191). -/
def NoticeUnit.due (nu : NoticeUnit) : BitVec 13 := nu.requests &&& nu.enables

/-- Some enabled cause's request is set: the ATTENTION flag (R190). -/
def NoticeUnit.attention (nu : NoticeUnit) : Bool := nu.due != 0

/-- Queue a notice where one is due and none is queued (R191). -/
def NoticeUnit.test (nu : NoticeUnit) : NoticeUnit := { nu with queued := nu.queued || nu.attention }

/-- Raise a cause: set its request, then make the test of R191. -/
def NoticeUnit.raise (nu : NoticeUnit) (c : Cause) : NoticeUnit :=
  NoticeUnit.test { nu with requests := nu.requests ||| c.set }

/-- Raise a cause (R190). -/
def State.raise (s : State) (c : Cause) : State := s.withNu (s.nu.raise c)

/-- Raise a cause where a condition holds. -/
def State.raiseIf (s : State) (c : Cause) (b : Bool) : State := s.withNu (if b then s.nu.raise c else s.nu)

/-! ## Channel sets (R181): L1 bit 0, L2 bit 1, L3 bit 2, NE bit 3 -/

def bitNat (b : Bool) (n : Nat) : Nat := if b then 2 ^ n else 0

/-- A set of phases as a number. -/
def phaseSetNat (v : PerPhase Bool) : Nat := bitNat v.l1 0 + bitNat v.l2 1 + bitNat v.l3 2

/-- A set of channels as a number. -/
def channelSetNat (v : PerChannel Bool) : Nat := bitNat v.l1 0 + bitNat v.l2 1 + bitNat v.l3 2 + bitNat v.ne 3

/-- Some phase is in the set. -/
def PerPhase.any (v : PerPhase Bool) : Bool := v.l1 || v.l2 || v.l3

/-- The union of two sets of phases. -/
def PerPhase.or (v w : PerPhase Bool) : PerPhase Bool := ⟨v.l1 || w.l1, v.l2 || w.l2, v.l3 || w.l3⟩

end Sys2Proof.Machine
end

