-- ==== Sys2Proof/Machine/Operands.lean ====
section
/-! DEFINITION. Machine/Operands.lean: the operands of management messages. Header fields and field words (R179), the
codes of enumerated values (R181), the payload tests of R179, and the fields of each command from its payload. -/

namespace Sys2Proof.Machine

/-! ## Selectors (R179) -/

/-- ALL is FFFFh. -/
def selectorAll : BitVec 16 := 0xFFFF#16

/-- The slot index 0 to 7 that a selector 1 to 8 names. -/
def slotOfSelector (sel : BitVec 16) : Option (Fin 8) :=
  if h : 1 ≤ sel.toNat ∧ sel.toNat ≤ 8 then some ⟨sel.toNat - 1, by omega⟩ else none

/-- The phases that a selector L1, L2, L3 or ALL names (R51, R56). -/
def phasesOfSelector (sel : BitVec 16) : Option (List Phase) :=
  if sel = selectorAll then some phases
  else if sel.toNat = 1 then some [.l1]
  else if sel.toNat = 2 then some [.l2]
  else if sel.toNat = 3 then some [.l3]
  else none

/-- The threshold set that a selector names: A 1, B 2. -/
def setOfSelector (sel : BitVec 16) : Option SetName :=
  if sel.toNat = 1 then some .a else if sel.toNat = 2 then some .b else none

/-- The cells of the part that a selector names: DIP 1, SWELL 2, ALL (R93). -/
def cellsOfSelector (sel : BitVec 16) : Option (List Nat) :=
  if sel = selectorAll then some (List.range 40)
  else if sel.toNat = 1 then some (List.range 25)
  else if sel.toNat = 2 then some ((List.range 15).map (· + 25))
  else none

/-! ## Enumerated values (R181): from a field value -/

def roleOfCode (v : BitVec 24) : Option Role :=
  match v.toNat with
  | 0 => some .pass
  | 1 => some .l1
  | 2 => some .l2
  | 3 => some .l3
  | 4 => some .ne
  | _ => none

def annotationOfCode (v : BitVec 24) : Option Annotation :=
  match v.toNat with
  | 0 => some .plain
  | 1 => some .event
  | 2 => some .peak
  | _ => none

def actionOfCode (v : BitVec 24) : Option CaptureAction :=
  match v.toNat with
  | 0 => some .discard
  | 1 => some .normal
  | 2 => some .priority
  | _ => none

def modeOfCode (v : BitVec 24) : Option CaptureMode :=
  match v.toNat with
  | 0 => some .auto
  | 1 => some .manual
  | _ => none

def filterOfCode (v : BitVec 24) : Option EventFilter :=
  match v.toNat with
  | 0 => some .all
  | 1 => some .unreported
  | _ => none

/-- A nominal frequency field holds 50 or 60 (R51). -/
def nominalOfCode (v : BitVec 24) : Option NominalFrequency :=
  match v.toNat with
  | 50 => some .hz50
  | 60 => some .hz60
  | _ => none

/-- An enable is decided by bit 0 alone (R181). -/
def enableOfCode (v : BitVec 24) : Bool := v.getLsbD 0

/-- A mask field: bits 0 to 2; the others are ignored (R181). -/
def maskOfCode (v : BitVec 24) : PerPhase Bool := ⟨v.getLsbD 0, v.getLsbD 1, v.getLsbD 2⟩

/-- A field, where present, holds one of the codes of its list. -/
def listed {α : Type} (ofCode : BitVec 24 → Option α) (v : Option (BitVec 24)) : Bool :=
  match v with
  | none => true
  | some x => (ofCode x).isSome

/-- A numeric field brought into its range, or the value it leaves as it is. -/
def clampedOr (lo hi : Nat) (v : Option (BitVec 24)) (old : Nat) : Nat :=
  match v with
  | none => old
  | some x => clamp lo hi x.toNat

/-! ## Enumerated values (R181): to a word -/

def Role.code : Role → Nat
  | .pass => 0
  | .l1 => 1
  | .l2 => 2
  | .l3 => 3
  | .ne => 4

def Annotation.code : Annotation → Nat
  | .plain => 0
  | .event => 1
  | .peak => 2

def CaptureAction.code : CaptureAction → Nat
  | .discard => 0
  | .normal => 1
  | .priority => 2

def CaptureMode.code : CaptureMode → Nat
  | .auto => 0
  | .manual => 1

def SetName.code : SetName → Nat
  | .a => 1
  | .b => 2

def RecordKind.code : RecordKind → Nat
  | .supply => 0
  | .gap => 1
  | .timestep => 2

def SupplyKind.code : SupplyKind → Nat
  | .dip => 0
  | .swell => 1
  | .interruption => 2
  | .mixed => 3

def CaptureOrigin.code : CaptureOrigin → Nat
  | .event => 0
  | .manual => 1

def CaptureState.code : CaptureState → Nat
  | .filling => 0
  | .settled => 1
  | .reading => 2

def CaptureDecision.code : CaptureDecision → Nat
  | .undecided => 0
  | .keep => 1
  | .priority => 2

def SpanKind.code : SpanKind → Nat
  | .pre => 0
  | .full => 1
  | .thin => 2

def MeasurementState.code : MeasurementState → Nat
  | .stopped => 0
  | .starting => 1
  | .running => 2
  | .suspended => 3

def TrackerState.code : TrackerState → Nat
  | .acquire => 0
  | .locked => 1
  | .hold => 2

def LaneState.code : LaneState → Nat
  | .hunt => 0
  | .check => 1
  | .aligned => 2
  | .lost => 3

def TimeSource.code : TimeSource → Nat
  | .frame => 0
  | .localOsc => 1

def PowerState.code : PowerState → Nat
  | .run => 0
  | .standby => 1

def WakeCause.code : WakeCause → Nat
  | .inboundActivity => 1
  | .returnActivity => 2
  | .wakeTimer => 3

def Category.code : Category → Nat
  | .excluded => 0
  | .noData => 1
  | .flagged => 2
  | .low => 3
  | .high => 4
  | .inBand => 5

def Verdict.code : Verdict → Nat
  | .insufficient => 0
  | .pass => 1
  | .fail => 2

/-- The channel of an extreme, coded as the selector codes it. -/
def Phase.code : Phase → Nat
  | .l1 => 1
  | .l2 => 2
  | .l3 => 3

def NominalFrequency.hertz : NominalFrequency → Nat
  | .hz50 => 50
  | .hz60 => 60

/-- The status codes (R180). -/
def Status.code : Status → Nat
  | .done => 0
  | .busy => 1
  | .state => 2
  | .invalid => 3
  | .locked => 4
  | .notReady => 5
  | .notFound => 6
  | .unknown => 7
  | .malformed => 8
  | .relayed => 9

/-- Bits 15-14 of a response's first word (R180). -/
def ResponseForm.code : ResponseForm → Nat
  | .single => 0
  | .streamItem => 1
  | .endMessage => 2

def flagNat (b : Bool) : Nat := if b then 1 else 0

/-! ## Command words (R179) -/

/-- Bit 31 marks a header word. -/
def isHeader (w : Word) : Bool := w.getLsbD 31

/-- Bit 30: the message is for the FRONT END. -/
def headerFrontEnd (w : Word) : Bool := w.getLsbD 30

def headerCode (w : Word) : BitVec 7 := w.extractLsb' 23 7

def headerSelector (w : Word) : BitVec 16 := w.extractLsb' 7 16

def headerLength (w : Word) : Nat := (w.extractLsb' 0 6).toNat

/-- A header word from its fields, its bit 6 zero. -/
def headerWord (frontEnd : Bool) (code : BitVec 7) (selector : BitVec 16) (length : BitVec 6) : Word :=
  (1#1 ++ BitVec.ofBool frontEnd ++ code ++ selector ++ 0#1 ++ length : BitVec 32)

/-- The field code of a field word: bits 30-24. -/
def fieldCode (w : Word) : Nat := (w.extractLsb' 24 7).toNat

/-- The value of a field word: bits 23-0, in 32 bits. -/
def fieldValue (w : Word) : Word := (w.extractLsb' 0 24).setWidth 32

/-! ## The payload tests (R179) -/

inductive FieldForm where
  | missing | narrow | wide
deriving DecidableEq, Repr

/-- The fields of a command by its code (section 11.3): how many, and which of them are wide (R179). -/
def fieldForm (command : Nat) (field : Nat) : FieldForm :=
  let upTo (n : Nat) : FieldForm := if 1 ≤ field ∧ field ≤ n then .narrow else .missing
  match command with
  | 1 => upTo 1
  | 4 => upTo 5
  | 6 => upTo 12
  | 10 => if 7 ≤ field ∧ field ≤ 10 then .wide else upTo 13
  | 13 => if field = 1 then .wide else upTo 3
  | 14 => if field = 1 then .wide else upTo 2
  | 16 => upTo 8
  | 19 => upTo 1
  | 21 => if field = 1 then .wide else upTo 2
  | 22 => upTo 4
  | 24 => if field = 1 then .wide else upTo 2
  | 26 => upTo 2
  | 28 => upTo 1
  | 29 => upTo 7
  | 30 => upTo 1
  | 31 => upTo 1
  | _ => .missing

/-- In SET CLASSES a class code or capture action needs a cell entry before it (R181). -/
def needsEntry (command field : Nat) : Bool := command == 10 && (field == 12 || field == 13)

/-- SET CLASSES's cell entry field. -/
def isEntry (command field : Nat) : Bool := command == 10 && field == 11

/-- A field with its value. -/
abbrev FieldList := List (Nat × Word)

/-- The payload tests, word by word in payload order; the first fault decides: INVALID for a field code that the
command does not have, MALFORMED for a wide field cut off. A wide field's own word carries 0, and its halves stand in
bits 15 to 0 of the two words after it (R179); other bits given there are ignored (DESIGN CHOICE, assumption 37). -/
def parseFields (command : Nat) (entrySeen : Bool) : List Word → Except Status FieldList
  | [] => .ok []
  | w :: rest =>
    match fieldForm command (fieldCode w) with
    | .missing => .error .invalid
    | .narrow =>
      if needsEntry command (fieldCode w) && !entrySeen then .error .invalid
      else
        match parseFields command (entrySeen || isEntry command (fieldCode w)) rest with
        | .ok fs => .ok ((fieldCode w, fieldValue w) :: fs)
        | .error e => .error e
    | .wide =>
      match rest with
      | hi :: lo :: rest' =>
        match parseFields command entrySeen rest' with
        | .ok fs => .ok ((fieldCode w, halves (lowHalf hi) (lowHalf lo)) :: fs)
        | .error e => .error e
      | _ => .error .malformed

/-- The value of a field; given twice, its later occurrence (R179). -/
def lastField (fs : FieldList) (field : Nat) : Option Word :=
  fs.foldl (fun acc x => if x.1 = field then some x.2 else acc) none

/-- The value of a narrow field. -/
def narrowField (fs : FieldList) (field : Nat) : Option (BitVec 24) := (lastField fs field).map (·.setWidth 24)

/-! ## The fields of each command from its field list, in field-code order -/

def channelFields (fs : FieldList) : ChannelFields :=
  { role := narrowField fs 1, gain := narrowField fs 2, offset := narrowField fs 3, annotation := narrowField fs 4,
    peak := narrowField fs 5 }

def profileFields (fs : FieldList) : ProfileFields :=
  { nominal := narrowField fs 1, mask := narrowField fs 2, neLimit := narrowField fs 3, bandLow := narrowField fs 4,
    bandHigh := narrowField fs 5, unom := narrowField fs 6, intStart := narrowField fs 7, intEnd := narrowField fs 8,
    dipStart := narrowField fs 9, dipEnd := narrowField fs 10, swellEnd := narrowField fs 11,
    swellStart := narrowField fs 12 }

/-- Add one field to the cell list: an entry opens a cell; a class code or capture action goes to the last entry. -/
def addCellField (cells : List CellEntry) (x : Nat × Word) : List CellEntry :=
  if x.1 = 11 then cells ++ [{ cell := x.2.setWidth 24 }]
  else
    match cells.getLast? with
    | none => cells
    | some c =>
      if x.1 = 12 then cells.dropLast ++ [{ c with code := some (x.2.setWidth 24) }]
      else if x.1 = 13 then cells.dropLast ++ [{ c with action := some (x.2.setWidth 24) }]
      else cells

def classFields (fs : FieldList) : ClassFields :=
  { b1 := narrowField fs 1, b2 := narrowField fs 2, b3 := narrowField fs 3, b4 := narrowField fs 4,
    s1 := narrowField fs 5, s2 := narrowField fs 6, d1 := lastField fs 7, d2 := lastField fs 8, d3 := lastField fs 9,
    d4 := lastField fs 10, cells := fs.foldl addCellField [] }

def readEventsFields (fs : FieldList) : ReadEventsFields :=
  { fromIdent := lastField fs 1, count := narrowField fs 2, filter := narrowField fs 3 }

def releaseEventsFields (fs : FieldList) : ReleaseEventsFields :=
  { upTo := lastField fs 1, watermark := narrowField fs 2 }

def captureFields (fs : FieldList) : CaptureFields :=
  { pre := narrowField fs 1, full := narrowField fs 2, thin := narrowField fs 3, factor := narrowField fs 4,
    post := narrowField fs 5, manual := narrowField fs 6, maxBlocks := narrowField fs 7, mode := narrowField fs 8 }

def readIntervalsFields (fs : FieldList) : ReadIntervalsFields :=
  { fromIndex := lastField fs 1, count := narrowField fs 2 }

def observationFields (fs : FieldList) : ObservationFields :=
  { length := narrowField fs 1, period := narrowField fs 2, allowance := narrowField fs 3,
    coverage := narrowField fs 4 }

def timeFields (fs : FieldList) : TimeFields := { seconds := lastField fs 1, tick := narrowField fs 2 }

def wakeFields (fs : FieldList) : WakeFields := { timer := narrowField fs 1, inbound := narrowField fs 2 }

def reportFields (fs : FieldList) : ReportFields :=
  { response := narrowField fs 1, notice := narrowField fs 2, event := narrowField fs 3, interval := narrowField fs 4,
    capture := narrowField fs 5, eventOn := narrowField fs 6, intervalOn := narrowField fs 7 }

end Sys2Proof.Machine
end

