-- ==== Sys2Proof/Machine/Register.lean ====
section
/-! DEFINITION. Machine/Register.lean: the Class Matrix and the Event Register (chapter 6), and the push lists they
offer to (R188). -/

namespace Sys2Proof.Machine

/-! ## Push lists (R188) -/

/-- Offer an event push: added when the enable is on and there is room; a full list raises PUSH_SKIPPED. -/
def State.offerEventPush (s : State) (ident : Nat) (phase : PushPhase) : State :=
  if s.ra.eventPushOn then
    if s.ra.eventPushes.length < Config.eventPushCapacity then
      s.withRa { s.ra with eventPushes := s.ra.eventPushes ++ [⟨ident, phase⟩] }
    else s.raise .pushSkipped
  else s

/-- Offer an interval push. -/
def State.offerIntervalPush (s : State) (index : Nat) : State :=
  if s.ra.intervalPushOn then
    if s.ra.intervalPushes.length < Config.intervalPushCapacity then
      s.withRa { s.ra with intervalPushes := s.ra.intervalPushes ++ [index] }
    else s.raise .pushSkipped
  else s

/-! ## Class Matrix (R88 to R90) -/

/-- The dip row of a permille (R88). -/
def dipRow (b : ClassBounds) (p : Nat) : Nat :=
  if b.b1 ≤ p then 0 else if b.b2 ≤ p then 1 else if b.b3 ≤ p then 2 else if b.b4 ≤ p then 3 else 4

/-- The swell row of a permille (R88). -/
def swellRow (b : ClassBounds) (p : Nat) : Nat := if p < b.s1 then 0 else if p < b.s2 then 1 else 2

/-- The column of a duration in milliseconds (R88). -/
def durationColumn (b : ClassBounds) (ms : Nat) : Nat :=
  if ms < b.d1 then 0 else if ms < b.d2 then 1 else if ms < b.d3 then 2 else if ms < b.d4 then 3 else 4

def dipCell (b : ClassBounds) (p ms : Nat) : Nat := dipRow b p * 5 + durationColumn b ms

def swellCell (b : ClassBounds) (p ms : Nat) : Nat := 25 + swellRow b p * 5 + durationColumn b ms

/-- The permille of an extreme, with the Unom of its own channel in the active set (R43, R89). -/
def extremePermille (unom : PerPhase Nat) (x : Option Extreme) : Nat :=
  match x with
  | some e => permille e.value (unom.get e.phase)
  | none => permille 0 (unom.get .l1)

/-- What the Class Matrix returns for an event (R89): the cell whose code and action it gives, and the second cell
that a MIXED event counts. -/
structure Placement where
  cell : Nat
  second : Option Nat
deriving DecidableEq, Repr

/-- The cells of an event by its supply kind (R89, step 3). -/
def placeEvent (b : ClassBounds) (unom : PerPhase Nat) (kind : SupplyKind) (dip swell : Option Extreme)
    (ticks : Nat) : Placement :=
  let dc := dipCell b (extremePermille unom dip) (millis ticks)
  let sc := swellCell b (extremePermille unom swell) (millis ticks)
  match kind with
  | .dip => ⟨dc, none⟩
  | .interruption => ⟨dc, none⟩
  | .swell => ⟨sc, none⟩
  | .mixed => ⟨dc, some sc⟩

/-- A cell with one event more; with lost detail where its record is not stored (R90). -/
def ClassCell.add (c : ClassCell) (stored : Bool) : ClassCell :=
  { c with count := saturatingSucc Config.maxCount c.count,
           lost := if stored then c.lost else saturatingSucc Config.maxCount c.lost }

/-- Count an event in one cell. -/
def ClassMatrix.countCell (m : ClassMatrix) (n : Nat) (stored : Bool) : ClassMatrix :=
  if h : n < 40 then { m with cells := m.cells.set n (m.cells[n].add stored) } else m

/-- Count an event in the cells of its placement (R90). -/
def ClassMatrix.count (m : ClassMatrix) (p : Placement) (stored : Bool) : ClassMatrix :=
  match p.second with
  | none => m.countCell p.cell stored
  | some n => (m.countCell p.cell stored).countCell n stored

/-- A cell by its number. -/
def ClassMatrix.cell (m : ClassMatrix) (n : Nat) : ClassCell := m.cells.toList.getD n (ClassCell.powerOn 0)

/-- Every count and lost-detail count 0; bounds, codes and actions kept (R94). -/
def ClassMatrix.clearCounts (m : ClassMatrix) : ClassMatrix :=
  { m with cells := m.cells.map (fun c => { c with count := 0, lost := 0 }) }

/-! ## Idents (R97) -/

/-- The ident that the next event takes. -/
def EventRegister.ident (r : EventRegister) : Nat := r.nextIdent

/-- A record may be stored for that ident: it may not once the greatest ident has been taken (R97). -/
def EventRegister.mayStore (r : EventRegister) : Bool := !r.ceilingTaken

/-- Take the next ident (R97): a saturating counter with its ceiling-taken mark. -/
def EventRegister.advance (r : EventRegister) : EventRegister :=
  if r.nextIdent < Config.maxIdent then { r with nextIdent := r.nextIdent + 1 } else { r with ceilingTaken := true }

/-- Take the next ident. -/
def State.takeIdent (s : State) : State := s.withEr s.er.advance

/-! ## Records (R98, R99) -/

/-- The list without its oldest CLOSED record. -/
def dropOldestClosed : List EventRecord → List EventRecord
  | [] => []
  | r :: rs => if r.closed then rs else r :: dropOldestClosed rs

/-- The register has room for a record, if need be by overwriting its oldest CLOSED one (R98). -/
def EventRegister.hasRoom (r : EventRegister) : Bool :=
  decide (r.records.length < Config.registerCapacity) || !r.locked

/-- The records with a new one stored (R98). -/
def EventRegister.append (r : EventRegister) (x : EventRecord) : EventRegister :=
  if r.records.length < Config.registerCapacity then { r with records := r.records ++ [x] }
  else { r with records := dropOldestClosed r.records ++ [x] }

/-- The register is at or above its watermark (R101). -/
def EventRegister.atWatermark (r : EventRegister) : Bool := decide (r.watermark ≤ r.records.length)

/-- Evaluate the watermark (R101). -/
def State.testWatermark (s : State) : State := s.raiseIf .registerWatermark s.er.atWatermark

/-- The answer to a request to store a record whose ident may or may not be stored (R97, R98). -/
def EventRegister.stores (r : EventRegister) (mayStore : Bool) : Bool := mayStore && r.hasRoom

/-- Store a record where the register can, and then evaluate the watermark (R98, R101). -/
def State.storeRecord (s : State) (x : EventRecord) (mayStore : Bool) : State :=
  if s.er.stores mayStore then State.testWatermark (s.withEr (s.er.append x)) else s

/-- Change the record of an ident. -/
def EventRegister.update (r : EventRegister) (ident : Nat) (g : EventRecord → EventRecord) : EventRegister :=
  { r with records := r.records.map (fun x => if x.ident = ident then g x else x) }

/-- The record of an ident as it stands. -/
def EventRegister.find (r : EventRegister) (ident : Nat) : Option EventRecord :=
  r.records.find? (fun x => x.ident == ident)

/-! ## Updates from other blocks (R105, R106) -/

/-- What the removal of a capture does to one record (R105). -/
def EventRecord.captureGone (x : EventRecord) (capture : Nat) (joined : List Nat) : EventRecord :=
  if joined.contains x.ident && x.capture == some capture then
    { x with capture := none,
             flags := setFlag x.flags .captureRemoved ||| EventFlag.when .detailLate (hasFlag x.flags .reported) }
  else x

/-- The register notes the removal of a capture (R105). -/
def EventRegister.captureGone (r : EventRegister) (capture : Nat) (joined : List Nat) : EventRegister :=
  { r with records := r.records.map (fun x => x.captureGone capture joined) }

/-- The register notes that a CLOSE push was sent in full: REPORTED, and DETAIL_LATE where the copy sent named a
capture that the record no longer names (R106). -/
def EventRegister.pushed (r : EventRegister) (ident : Nat) (named : Option Nat) : EventRegister :=
  r.update ident (fun x =>
    { x with flags := setFlag x.flags .reported ||| EventFlag.when .detailLate (named.isSome && named != x.capture) })

/-- Remove every CLOSED record up to an ident (R103). -/
def EventRegister.release (r : EventRegister) (upTo : Nat) : EventRegister :=
  { r with records := r.records.filter (fun x => !(x.closed && decide (x.ident ≤ upTo))) }

/-- The record with the least ident at or above `next` that matches the filter (R104). -/
def EventRegister.choose (r : EventRegister) (next : Nat) (filter : EventFilter) : Option EventRecord :=
  r.records.find? (fun x => decide (next ≤ x.ident) &&
    (match filter with
     | .all => true
     | .unreported => !hasFlag x.flags .reported))

end Sys2Proof.Machine
end

