-- ==== Sys2Proof/Machine/Profiles.lean ====
section
/-! DEFINITION. Machine/Profiles.lean: threshold sets and their levels (chapter 4, section 3.8), and who holds a role
(R2). -/

namespace Sys2Proof.Machine

/-! ## Roles (R2) -/

def Channel.role : Channel → Role
  | .l1 => .l1
  | .l2 => .l2
  | .l3 => .l3
  | .ne => .ne

/-- The slot that holds a role, as an index 0 to 7. -/
def Conditioner.slotOf (c : Conditioner) (r : Role) : Option (Fin 8) :=
  (List.finRange 8).find? (fun i => c.table[i].role == r)

/-- Some slot holds the channel's role. -/
def Conditioner.present (c : Conditioner) (ch : Channel) : Bool := (c.slotOf ch.role).isSome

/-- The evaluated channels (R2). -/
def Conditioner.channelSet (c : Conditioner) : PerChannel Bool := PerChannel.of c.present

/-- Some slot holds L1, L2 or L3 (R11). -/
def Conditioner.hasPhase (c : Conditioner) : Bool := c.present .l1 || c.present .l2 || c.present .l3

/-! ## Levels (R44) -/

/-- The eight levels of a phase channel from a set. -/
def phaseLevels (t : ThresholdSet) (p : Phase) : Levels :=
  let x := t.phase.get p
  { dipStart := level x.unom x.dipStart, dipEnd := level x.unom x.dipEnd, intStart := level x.unom x.intStart,
    intEnd := level x.unom x.intEnd, swellStart := level x.unom x.swellStart, swellEnd := level x.unom x.swellEnd,
    bandLow := level x.unom t.bandLow, bandHigh := level x.unom t.bandHigh }

/-- The levels of a set. -/
def setLevels (t : ThresholdSet) : PerPhase Levels := PerPhase.of (phaseLevels t)

/-- The NE limit level: the NE limit with the Unom of the L1 entry (R44). -/
def setNeLevel (t : ThresholdSet) : Nat := level t.phase.l1.unom t.neLimit

/-- A set by its name. -/
def ProfileStore.get (p : ProfileStore) : SetName → ThresholdSet
  | .a => p.setA
  | .b => p.setB

/-- Replace a set's content. -/
def ProfileStore.put (p : ProfileStore) (n : SetName) (t : ThresholdSet) : ProfileStore :=
  match n with
  | .a => { p with setA := t }
  | .b => { p with setB := t }

/-- The active set. -/
def ProfileStore.activeSet (p : ProfileStore) : ThresholdSet := p.get p.active

/-- The Unom of each phase in the active set. -/
def ProfileStore.unoms (p : ProfileStore) : PerPhase Nat := p.activeSet.phase.map (·.unom)

/-- The nominal half period: 128 frames at 50 Hz, 107 at 60 Hz (R22). -/
def ProfileStore.nominalHalf (p : ProfileStore) : Nat :=
  match p.activeSet.nominal with
  | .hz50 => 128
  | .hz60 => 107

/-- A phase channel is watched when some slot holds its role and it is in the active mask (R63). -/
def State.watched (s : State) (p : Phase) : Bool := s.cc.present p.channel && s.ps.activeSet.mask.get p

/-- The watched set. -/
def State.watchedSet (s : State) : PerPhase Bool := PerPhase.of s.watched

/-! ## Writing a set (R52, R53) -/

/-- The chain of R53 for one phase channel. -/
def PhaseThresholds.ordered (x : PhaseThresholds) : Bool :=
  decide (x.intStart < x.intEnd) && decide (x.intEnd ≤ x.dipStart) && decide (x.dipStart < x.dipEnd) &&
  decide (x.dipEnd ≤ 1000) && decide (1000 ≤ x.swellEnd) && decide (x.swellEnd < x.swellStart)

/-- The ordering check of SET PROFILE (R53). -/
def ThresholdSet.ordered (t : ThresholdSet) : Bool :=
  t.phase.l1.ordered && t.phase.l2.ordered && t.phase.l3.ordered && decide (t.bandLow < t.bandHigh) && t.mask.any

/-- A phase entry with the per-channel fields present, clamped (R52). -/
def PhaseThresholds.write (x : PhaseThresholds) (f : ProfileFields) : PhaseThresholds :=
  { unom := clampedOr 5000 60000 f.unom x.unom
    intStart := clampedOr 0 2000 f.intStart x.intStart
    intEnd := clampedOr 0 2000 f.intEnd x.intEnd
    dipStart := clampedOr 0 2000 f.dipStart x.dipStart
    dipEnd := clampedOr 0 2000 f.dipEnd x.dipEnd
    swellEnd := clampedOr 0 2000 f.swellEnd x.swellEnd
    swellStart := clampedOr 0 2000 f.swellStart x.swellStart }

/-- The set as it would stand after a write to the phases named (R51, R52). -/
def ThresholdSet.write (t : ThresholdSet) (f : ProfileFields) (ps : List Phase) : ThresholdSet :=
  { nominal := match f.nominal with
      | none => t.nominal
      | some v => (nominalOfCode v).getD t.nominal
    mask := match f.mask with
      | none => t.mask
      | some v => maskOfCode v
    phase := PerPhase.of (fun p => if ps.contains p then (t.phase.get p).write f else t.phase.get p)
    neLimit := clampedOr 0 2000 f.neLimit t.neLimit
    bandLow := clampedOr 0 2000 f.bandLow t.bandLow
    bandHigh := clampedOr 0 2000 f.bandHigh t.bandHigh }

end Sys2Proof.Machine
end

