-- ==== Sys2Proof/Machine/Intervals.lean ====
section
/-! DEFINITION. Machine/Intervals.lean: the Interval Unit (chapter 8): opening, accumulating, closing and assessing
intervals. -/

namespace Sys2Proof.Machine

/-! ## Reading the other blocks -/

/-- A SUPPLY event is open. -/
def EventTracker.supplyOpen (t : EventTracker) : Bool :=
  match t.context with
  | some c => c.kind == .supply
  | none => false

/-- Measurement is STARTING or RUNNING. -/
def MeasurementState.measuring : MeasurementState → Bool
  | .stopped => false
  | .starting => true
  | .running => true
  | .suspended => false

/-- The condition of R135's second route: SUSPENDED or STARTING with a SUPPLY event open. -/
def State.absentData (s : State) : Bool :=
  (s.cc.measurement == .suspended || s.cc.measurement == .starting) && s.et.supplyOpen

/-! ## Opening (R132) -/

/-- The seconds of E for an interval that opens at t with length L (R132). -/
def intervalEndSec (t : DeviceTime) (length : Nat) : Nat := (t.sec / length + 1) * length

/-- An interval that opens at t is aligned when t has tick 0 and seconds divisible by its length (R132). -/
def alignedStart (t : DeviceTime) (length : Nat) : Bool := t.tick == 0 && t.sec % length == 0

/-- The interval that opens at a start time, with the flags it has from the moment it opens (R132, R135, R136). -/
def State.newInterval (s : State) (start : DeviceTime) : Interval :=
  { index := saturatingSucc Config.maxIdent s.iu.current.index
    start := start
    endSec := intervalEndSec start s.iu.length
    length := s.iu.length
    span := 0
    totals := ⟨ChannelTotals.zero, ChannelTotals.zero, ChannelTotals.zero, ChannelTotals.zero⟩
    freqSum := 0, freqCount := 0
    flags := IntervalFlag.when .event s.absentData ||| IntervalFlag.when .timeLocal (s.tb.source == .localOsc) |||
      IntervalFlag.when .timeUnset s.tb.unset ||| IntervalFlag.when .timeStep (!alignedStart start s.iu.length)
    patched := 0, clipped := 0, breaks := 0 }

/-- Open an interval. -/
def State.openInterval (s : State) (start : DeviceTime) : State :=
  s.withIu { s.iu with current := s.newInterval start }

/-- Set a flag of the open interval where a condition holds. -/
def State.markInterval (s : State) (f : IntervalFlag) (c : Bool) : State :=
  s.withIu { s.iu with current := s.iu.current.mark f c }

/-- Mark EVENT under R135's second route. -/
def State.markAbsent (s : State) : State := s.markInterval .event s.absentData

/-! ## Accumulating (R133, R134) -/

/-- A channel's segment RMS with the channel's clipped mark (R40). -/
structure SegmentRms where
  value : Nat
  clipped : Bool
deriving DecidableEq, Repr

/-- What the RMS Engine delivers at a segment end (R40); `clipped` is set when any channel's mark is. -/
structure SegmentDelivery where
  time : DeviceTime
  rms : PerChannel (Option SegmentRms)
  patched : Bool
  clipped : Bool
  held : Bool
  freq : Option Nat
deriving DecidableEq, Repr

/-- The segment RMS of a channel, where the delivery holds one. -/
def SegmentDelivery.value (d : SegmentDelivery) (c : Channel) : Option Nat := (d.rms.get c).map (·.value)

/-- One segment value into a channel's accumulators (R133). -/
def ChannelTotals.add (a : ChannelTotals) (r : Option Nat) : ChannelTotals :=
  match r with
  | none => a
  | some v =>
    { sumSquares := a.sumSquares + v * v, count := a.count + 1,
      least := if a.count = 0 then v else min a.least v, greatest := if a.count = 0 then v else max a.greatest v }

/-- A delivered segment into the interval that receives it (R133, R134, R135, R136). -/
def Interval.receive (v : Interval) (d : SegmentDelivery) (neLevel : Nat) (event mixed : Bool) : Interval :=
  { v with
    totals := PerChannel.of (fun c => (v.totals.get c).add (d.value c))
    freqSum := v.freqSum + d.freq.getD 0
    freqCount := v.freqCount + flagNat d.freq.isSome
    patched := v.patched + flagNat d.patched
    clipped := v.clipped + flagNat d.clipped
    flags := v.flags ||| IntervalFlag.when .neHigh (decide (neLevel < (d.value .ne).getD 0)) |||
      IntervalFlag.when .event event ||| IntervalFlag.when .mixedProfile mixed }

/-- The closing interval takes segments whose boundary frame is before its E (R133). -/
def Interval.takes (v : Interval) (t : DeviceTime) : Bool := t.before ⟨v.endSec, 0⟩

/-- Assign a delivered segment to the closing interval or to the open one (R133). -/
def State.assignSegment (s : State) (d : SegmentDelivery) (event mixed : Bool) : State :=
  match s.iu.closing with
  | some v =>
    if v.takes d.time then s.withIu { s.iu with closing := some (v.receive d s.ps.neLevel event mixed) }
    else s.withIu { s.iu with current := s.iu.current.receive d s.ps.neLevel event mixed }
  | none => s.withIu { s.iu with current := s.iu.current.receive d s.ps.neLevel event mixed }

/-! ## The record of a close (R138, R142) -/

/-- The interval RMS of a channel: absent when no segment counted (R42). -/
def ChannelTotals.rms (a : ChannelTotals) : Option Nat :=
  if a.count = 0 then none else some (exactRoot a.sumSquares a.count)

def ChannelTotals.extremes (a : ChannelTotals) : Option (Nat × Nat) :=
  if a.count = 0 then none else some (a.least, a.greatest)

/-- A flag that keeps an interval out of the band judgement (R142, order 3). -/
def Interval.unjudged (v : Interval) : Bool := v.has .event || v.has .mixedProfile || v.has .timeStep

/-- The compliance category of a phase channel (R142). -/
def Interval.category (v : Interval) (ps : ProfileStore) (p : Phase) : Category :=
  if !ps.activeSet.mask.get p then .excluded
  else
    match (v.totals.get p.channel).rms with
    | none => .noData
    | some r =>
      if v.unjudged then .flagged
      else if r < (ps.levels.get p).bandLow then .low
      else if (ps.levels.get p).bandHigh < r then .high
      else .inBand

/-- The record of an interval (R138). -/
def Interval.record (v : Interval) (ps : ProfileStore) : IntervalRecord :=
  { index := v.index, start := v.start, span := DeviceTime.ofTicks v.span, length := v.length,
    rms := v.totals.map ChannelTotals.rms, extremes := v.totals.map ChannelTotals.extremes,
    counts := v.totals.map (·.count), category := PerPhase.of (v.category ps),
    meanFreq := if v.freqCount = 0 then none else some (roundHalfUp v.freqSum v.freqCount),
    freqCount := v.freqCount, flags := v.flags, patched := v.patched, clipped := v.clipped, breaks := v.breaks,
    profile := ps.active }

/-! ## The log (R139) -/

/-- A list with a new element at its end, its oldest removed where it was full. -/
def appendBounded {α : Type} (capacity : Nat) (l : List α) (x : α) : List α :=
  if l.length < capacity then l ++ [x] else l.drop 1 ++ [x]

/-- The close appends a record: not once the greatest index has closed (R139). -/
def IntervalUnit.logs (u : IntervalUnit) (v : Interval) : Bool := !(v.index == Config.maxIdent && u.lastIndexClosed)

/-- The log with a record appended (R139). -/
def IntervalUnit.append (u : IntervalUnit) (r : IntervalRecord) : IntervalUnit :=
  { u with log := appendBounded Config.logCapacity u.log r,
           lastIndexClosed := u.lastIndexClosed || r.index == Config.maxIdent }

/-! ## Observation periods (R143, R144) -/

/-- One interval more in a category. -/
def CategoryCounts.add (c : CategoryCounts) : Category → CategoryCounts
  | .excluded => { c with excluded := c.excluded + 1 }
  | .noData => { c with noData := c.noData + 1 }
  | .flagged => { c with flagged := c.flagged + 1 }
  | .low => { c with low := c.low + 1 }
  | .high => { c with high := c.high + 1 }
  | .inBand => { c with inBand := c.inBand + 1 }

/-- The six counts in code order (R181). -/
def CategoryCounts.toList (c : CategoryCounts) : List Nat := [c.excluded, c.noData, c.flagged, c.low, c.high, c.inBand]

/-- The verdict of a channel (R144). -/
def verdict (c : CategoryCounts) (period allowance coverage : Nat) : Verdict :=
  if (c.inBand + c.low + c.high) * 1000 < coverage * period then .insufficient
  else if (c.low + c.high) * 1000 ≤ allowance * (c.inBand + c.low + c.high) then .pass
  else .fail

/-- The summary of the running period, its last interval being `last` (R144). -/
def IntervalUnit.summary (u : IntervalUnit) (last : Nat) : Summary :=
  { first := u.firstIndex.getD last, last := last, period := u.period, allowance := u.allowance,
    coverage := u.coverage, counts := u.counters,
    verdicts := u.counters.map (fun c => verdict c u.period u.allowance u.coverage) }

/-- A new observation period: counters 0, first index absent. -/
def IntervalUnit.newPeriod (u : IntervalUnit) : IntervalUnit :=
  { u with counters := ⟨CategoryCounts.zero, CategoryCounts.zero, CategoryCounts.zero⟩, periodClosed := 0,
           firstIndex := none }

/-- Count a close in the period (R143). -/
def IntervalUnit.countClose (u : IntervalUnit) (r : IntervalRecord) : IntervalUnit :=
  { u with counters := PerPhase.of (fun p => (u.counters.get p).add (r.category.get p)),
           periodClosed := u.periodClosed + 1,
           firstIndex := some (u.firstIndex.getD r.index) }

/-- The period is complete. -/
def IntervalUnit.periodDone (u : IntervalUnit) : Bool := decide (u.period ≤ u.periodClosed)

/-- Append the period's summary and begin a new period (R143). -/
def IntervalUnit.endPeriod (u : IntervalUnit) (last : Nat) : IntervalUnit :=
  IntervalUnit.newPeriod
    { u with summaries := appendBounded Config.summaryCapacity u.summaries (u.summary last),
             summariesGone := if u.summaries.length < Config.summaryCapacity then u.summariesGone
               else u.summariesGone + 1 }

/-- Append the record of a close where it is logged. -/
def State.logRecord (s : State) (v : Interval) (r : IntervalRecord) : State :=
  if s.iu.logs v then s.withIu (s.iu.append r) else s

/-- Offer the push of a close where it is logged. -/
def State.pushRecord (s : State) (logged : Bool) (index : Nat) : State :=
  if logged then s.offerIntervalPush index else s

/-- End the observation period where this close completes it (R143). -/
def State.testPeriod (s : State) (index : Nat) : State :=
  if s.iu.periodDone then
    ((s.withIu (s.iu.endPeriod index)).raise .observationClosed).note .observationPeriodEnd
  else s

/-- Close an interval: form its record, append it, assess it where asked, raise INTERVAL_CLOSED, offer its push, and
end the observation period where it is complete (R138, R139, R143). -/
def State.closeInterval (s : State) (v : Interval) (assessed : Bool) : State :=
  let r := v.record s.ps
  let logged := s.iu.logs v
  let s1 := s.logRecord v r
  let s2 := if assessed then s1.withIu (s1.iu.countClose r) else s1
  let s3 := State.pushRecord (s2.raise .intervalClosed) logged v.index
  if assessed then s3.testPeriod v.index else s3

/-- Close the closing interval, if there is one (R137). -/
def State.closeClosing (s : State) : State :=
  match s.iu.closing with
  | none => s
  | some v => State.closeInterval (s.withIu { s.iu with closing := none }) v true

/-- An interval that reached its end outside measurement closes at once, or waits for the end of a clearing (R137,
R184). -/
def State.closeOrDefer (s : State) (v : Interval) : State :=
  if s.cu.work = .clearing then s.withIu { s.iu with deferred := s.iu.deferred ++ [v] }
  else s.closeInterval v true

/-- Device time has reached the open interval's E: its successor opens; it closes, or becomes the closing interval
while measuring (R137). -/
def State.reachIntervalEnd (s : State) : State :=
  let v := s.iu.current
  let s1 := State.openInterval (s.note .intervalEnd) ⟨v.endSec, 0⟩
  if s.cc.measurement.measuring then
    let s2 := s1.closeClosing
    s2.withIu { s2.iu with closing := some v }
  else s1.closeOrDefer v

/-- Close the open interval early with TIME_STEP and open a new one at a start time (R140, R146). -/
def State.stepInterval (s : State) (start : DeviceTime) (assessed : Bool) : State :=
  State.openInterval (s.closeInterval (s.iu.current.mark .timeStep true) assessed) start

/-- The closes that a clearing deferred are made in order (R184). -/
def State.closeDeferred (s : State) : State :=
  s.iu.deferred.foldl (fun t v => t.closeInterval v true) (s.withIu { s.iu with deferred := [] })

/-! ## The segment event mark (R135) -/

/-- Measurement has left STARTING or RUNNING: the closing interval closes, and an abandoned segment's mark passes to
the open interval (R135 route 3, R137). -/
def State.intervalLeave (s : State) : State :=
  let s1 := s.closeClosing
  s1.withIu { s1.iu with current := s1.iu.current.mark .event s1.iu.eventMark, eventMark := false }

end Sys2Proof.Machine
end

