-- ==== Sys2Proof/Machine/Capture.lean ====
section
/-! DEFINITION. Machine/Capture.lean: the Capture Engine (chapter 7): ring, blocks, directory, triggering, filling,
decisions, eviction and discard. -/

namespace Sys2Proof.Machine

/-! ## The open event's context, as the Capture Engine writes it (R84) -/

/-- Change the open event's context. -/
def EventTracker.update (t : EventTracker) (g : EventContext → EventContext) : EventTracker :=
  { t with context := t.context.map g }

/-- The open event gains a flag. -/
def State.flagEvent (s : State) (f : EventFlag) (c : Bool) : State :=
  s.withEt (s.et.update (fun x => { x with flags := x.flags ||| f.when c }))

/-- The open event is one of a list of idents. It is known by its ident alone: past the greatest event ident (R97) an open
event that never joined shares its ident with a listed, closed one and counts as listed (DESIGN CHOICE, assumption 33).
-/
def EventTracker.openIn (t : EventTracker) (idents : List Nat) : Bool :=
  match t.context with
  | none => false
  | some x => idents.contains x.ident

/-- The context of an open joined event loses the ident of a removed capture (R105). -/
def EventTracker.captureGone (t : EventTracker) (capture : Nat) (joined : List Nat) : EventTracker :=
  t.update (fun x => if joined.contains x.ident && x.capture == some capture then { x with capture := none } else x)

/-- The open event's record-stored item (R66). -/
def EventTracker.recordStored (t : EventTracker) : Bool :=
  match t.context with
  | none => false
  | some x => x.stored

/-- An OPEN record takes a capture ident; a CLOSED one is another event's (R97, R116). -/
def EventRecord.nameCapture (x : EventRecord) (capture : Nat) : EventRecord :=
  if x.closed then x else { x with capture := some capture }

/-- A capture ident is written into the open event's context and into its OPEN record, if that record is stored (R116,
R117). -/
def State.nameCapture (s : State) (event capture : Nat) : State :=
  (s.withEt (s.et.update (fun x => { x with capture := some capture }))).withEr
    (if s.et.recordStored then s.er.update event (fun x => x.nameCapture capture) else s.er)

/-! ## Directory and blocks (R110 to R112) -/

/-- The FILLING capture. -/
def CaptureEngine.filling (c : CaptureEngine) : Option Capture := c.directory.find? (fun x => x.state == .filling)

/-- The directory entry of an ident. -/
def CaptureEngine.find (c : CaptureEngine) (ident : Nat) : Option Capture :=
  c.directory.find? (fun x => x.ident == ident)

/-- Change the directory entry of an ident. -/
def CaptureEngine.update (c : CaptureEngine) (ident : Nat) (g : Capture → Capture) : CaptureEngine :=
  { c with directory := c.directory.map (fun x => if x.ident = ident then g x else x) }

/-- A block by its number. -/
def CaptureEngine.block (c : CaptureEngine) (n : Nat) : CaptureBlock := c.blocks[n]?.getD CaptureBlock.unused

/-- Remove a directory entry; its blocks return to the tail of the free list (R110). -/
def CaptureEngine.remove (c : CaptureEngine) (x : Capture) : CaptureEngine :=
  { c with directory := c.directory.filter (fun y => y.ident != x.ident), free := c.free ++ x.blocks }

/-- Remove a capture and tell the Event Register and the open event's context (R105). -/
def State.removeCapture (s : State) (x : Capture) : State :=
  ((s.withCe (s.ce.remove x)).withEr (s.er.captureGone x.ident x.joined)).withEt
    (s.et.captureGone x.ident x.joined)

/-- The total entries of a capture (R112). -/
def CaptureEngine.entries (c : CaptureEngine) (x : Capture) : Nat :=
  (x.blocks.map (fun n => (c.block n).entries.length)).sum

/-! ## Eviction (R120) -/

/-- A capture can be evicted when it is SETTLED with decision KEEP. -/
def Capture.evictable (x : Capture) : Bool := x.state == .settled && x.decision == .keep

/-- Evict the first capture that can be evicted. -/
def State.evictOldest (s : State) : State :=
  match s.ce.directory.find? Capture.evictable with
  | none => s
  | some x => (s.removeCapture x).raise .captureEvicted

/-- The free list and the directory meet a need of n blocks and one entry. -/
def CaptureEngine.meets (c : CaptureEngine) (n : Nat) : Bool :=
  decide (c.directory.length < Config.directoryCapacity) && decide (n ≤ c.free.length)

/-- The room test of R117: the need is met as things stand, or eviction could meet it. -/
def CaptureEngine.roomFor (c : CaptureEngine) (n : Nat) : Bool :=
  let out := c.directory.filter Capture.evictable
  (decide (c.directory.length < Config.directoryCapacity) || !out.isEmpty) &&
    decide (n ≤ c.free.length + (out.map (fun x => x.blocks.length)).sum)

/-- Evict, oldest first, until the need is met, and no further. -/
def State.evictUntil (n : Nat) : Nat → State → State
  | 0, s => s
  | fuel + 1, s => if s.ce.meets n then s else State.evictUntil n fuel s.evictOldest

/-! ## The PRE span (R117) -/

/-- Add a ring entry to runs of at most 256 entries with consecutive times, newest run and newest entry first. -/
def addToRuns (runs : List (List RingEntry)) (e : RingEntry) : List (List RingEntry) :=
  match runs with
  | (p :: ps) :: rest =>
    if ps.length + 1 < Config.blockCapacity && e.time == p.time.plus 1 then (e :: p :: ps) :: rest
    else [e] :: (p :: ps) :: rest
  | _ => [e] :: runs

/-- The blocks' worth of entries that a run of ring entries fills, oldest first (R111). -/
def blockRuns (es : List RingEntry) : List (List RingEntry) := ((es.foldl addToRuns []).map List.reverse).reverse

/-- The ring indices at which half cycles begin. -/
def CaptureEngine.halfStarts (c : CaptureEngine) : List Nat :=
  (c.ring.zipIdx.filter (fun x => x.1.opens)).map (fun x => x.2)

/-- The ring entries from the first of the w newest complete half cycles. -/
def CaptureEngine.preEntries (c : CaptureEngine) (w : Nat) : List RingEntry :=
  c.ring.drop (c.halfStarts.getD (c.halfStarts.length - 1 - w) 0)

/-- The most complete half cycles, at most w, whose PRE span fits the maximum blocks per capture. -/
def CaptureEngine.preFit (c : CaptureEngine) : Nat → Nat
  | 0 => 0
  | w + 1 => if (blockRuns (c.preEntries (w + 1))).length ≤ c.settings.maxBlocks then w + 1 else c.preFit w

/-- The pre-trigger half cycles that a start copies. -/
def CaptureEngine.preHalves (c : CaptureEngine) : Nat := c.preFit (min c.settings.pre (c.halfStarts.length - 1))

/-- The PRE span of a start, as blocks' worth of entries. -/
def CaptureEngine.preRuns (c : CaptureEngine) : List (List RingEntry) := blockRuns (c.preEntries c.preHalves)

/-! ## Starting a capture (R117) -/

/-- The capture ident after one, 65,535 being followed by 1. -/
def succCaptureIdent (n : Nat) : Nat := if n < 65535 then n + 1 else 1

/-- The first ident from n on that no entry holds (R112). -/
def CaptureEngine.freeIdent (c : CaptureEngine) : Nat → Nat → Nat
  | 0, n => n
  | fuel + 1, n => if (c.find n).isSome then c.freeIdent fuel (succCaptureIdent n) else n

/-- The block that holds a run of the PRE span. -/
def preBlock (run : List RingEntry) : CaptureBlock :=
  { kind := .pre, spacing := 1, first := ((run.map (·.time)).head?).getD ⟨0, 0⟩, entries := run.map (·.samples) }

/-- Put blocks into the pool by number. -/
def putBlocks (pool : Vector CaptureBlock 128) (xs : List (Nat × CaptureBlock)) : Vector CaptureBlock 128 :=
  xs.foldl (fun p x => p.setIfInBounds x.1 x.2) pool

/-- The fill state of a capture that starts (R118). -/
def CaptureEngine.startFill (c : CaptureEngine) (origin : CaptureOrigin) : FillState :=
  { kind := .full, boundariesLeft := c.settings.full, offset := 0, fresh := true, full := c.settings.full,
    thin := c.settings.thin, factor := c.settings.factor, post := none,
    manualLeft := match origin with
      | .event => none
      | .manual => some c.settings.manual }

/-- The entry of a capture that starts, and its PRE span stored (R117, step 3). -/
def CaptureEngine.start (c : CaptureEngine) (origin : CaptureOrigin) (joined : List Nat) (time : DeviceTime)
    (set : PerChannel Bool) : CaptureEngine :=
  let runs := c.preRuns
  let numbers := c.free.take runs.length
  let ident := c.freeIdent 17 c.nextIdent
  { c with
    blocks := putBlocks c.blocks (numbers.zip (runs.map preBlock))
    free := c.free.drop runs.length
    nextIdent := succCaptureIdent ident
    fill := some (c.startFill origin)
    directory := c.directory ++
      [{ ident := ident, origin := origin, joined := joined, state := .filling,
         decision := match origin with
           | .event => .undecided
           | .manual => .keep
         start := time, channels := set, preHeld := c.preHalves, blocks := numbers, truncated := false,
         joinedFlag := false, discardDue := false }] }

/-- The room test of a start passes. -/
def CaptureEngine.canStart (c : CaptureEngine) : Bool := c.roomFor c.preRuns.length

/-- Start a capture whose room test passes, evicting as it needs. -/
def State.startCapture (s : State) (origin : CaptureOrigin) (joined : List Nat) (time : DeviceTime) : State :=
  let s1 := State.evictUntil s.ce.preRuns.length s.ce.directory.length s
  s1.withCe (s1.ce.start origin joined time s.cc.channelSet)

/-! ## An event's opening (R115, R116) -/

/-- The event joins the FILLING capture (R116). -/
def State.joinCapture (s : State) (c : Capture) (ident : Nat) : State :=
  let ce := s.ce.update c.ident (fun x => { x with joined := x.joined ++ [ident], joinedFlag := true })
  State.nameCapture (s.withCe { ce with fill := ce.fill.map (fun f => { f with post := none }) }) ident c.ident

/-- The ident of the newest directory entry. -/
def CaptureEngine.newestIdent (c : CaptureEngine) : Nat := (c.directory.getLast?.map (·.ident)).getD 0

/-- A capture of origin EVENT starts for the event, or the event is refused (R115, order 5 and 6). -/
def State.eventCapture (s : State) (ident : Nat) (time : DeviceTime) : State :=
  if s.ce.ready && s.ce.canStart then
    let s1 := s.startCapture .event [ident] time
    s1.nameCapture ident s1.ce.newestIdent
  else s.flagEvent .captureRefused true

/-- The Capture Engine decides on a SUPPLY event that has opened (R115). -/
def State.offerCapture (s : State) (ident : Nat) (time : DeviceTime) : State :=
  match s.ce.settings.mode with
  | .manual => s
  | .auto =>
    match s.ce.filling with
    | some c =>
      match c.origin with
      | .event => if 4 ≤ c.joined.length then s.flagEvent .captureRefused true else s.joinCapture c ident
      | .manual => s.flagEvent .captureRefused true
    | none => s.eventCapture ident time

/-! ## Ending filling (R121, R122) -/

/-- End the filling of a capture: the fill state becomes absent; TRUNCATED where said, passed to an open joined event;
SETTLED with CAPTURE_SETTLED where said (R121). Past the greatest event ident (R97) an open event that never joined, but
whose ident the capture lists, gains CAPTURE_TRUNCATED too (DESIGN CHOICE, assumption 33). -/
def State.endFilling (s : State) (c : Capture) (truncated settle : Bool) : State :=
  let ce := s.ce.update c.ident (fun x =>
    { x with truncated := x.truncated || truncated, state := if settle then .settled else x.state })
  let s1 := s.withCe { ce with fill := none }
  (s1.flagEvent .captureTruncated (truncated && s1.et.openIn c.joined)).raiseIf .captureSettled settle

/-- End the filling of the FILLING capture, if there is one. -/
def State.stopFilling (s : State) (truncated settle : Bool) : State :=
  match s.ce.filling with
  | none => s
  | some c => s.endFilling c truncated settle

/-! ## Storing entries (R118, R119) -/

/-- The span takes its next frame record: every one in FULL, those at offsets 0, D, 2D, ... in THIN. -/
def FillState.takes (f : FillState) : Bool := f.kind == .full || f.offset % f.factor == 0

/-- The spacing of the span in progress. -/
def FillState.spacing (f : FillState) : Nat := if f.kind = .thin then f.factor else 1

/-- The offset within the span moves on. -/
def FillState.step (f : FillState) : FillState := { f with offset := f.offset + 1 }

/-- An entry starts a new block: a new span, a full block, or a time that does not follow (R111). -/
def needsBlock (f : FillState) (b : CaptureBlock) (time : DeviceTime) : Bool :=
  f.fresh || decide (Config.blockCapacity ≤ b.entries.length) || time != b.first.plus (b.entries.length * b.spacing)

/-- The block that a capture fills. -/
def CaptureEngine.lastBlock (c : CaptureEngine) (x : Capture) : CaptureBlock :=
  match x.blocks.getLast? with
  | some n => c.block n
  | none => CaptureBlock.unused

/-- Store an entry in the capture's last block. -/
def CaptureEngine.storeInLast (c : CaptureEngine) (x : Capture) (samples : List Int) : CaptureEngine :=
  match x.blocks.getLast? with
  | some n =>
    let b := c.block n
    { c with blocks := c.blocks.setIfInBounds n { b with entries := b.entries ++ [samples] } }
  | none => c

/-- Take the block at the head of the free list for a capture and store its first entry there. -/
def CaptureEngine.storeInNew (c : CaptureEngine) (x : Capture) (f : FillState) (samples : List Int)
    (time : DeviceTime) : CaptureEngine :=
  match c.free with
  | [] => c
  | n :: rest =>
    CaptureEngine.update
      { c with free := rest,
               blocks := c.blocks.setIfInBounds n
                 { kind := f.kind, spacing := f.spacing, first := time, entries := [samples] } }
      x.ident (fun y => { y with blocks := y.blocks ++ [n] })

/-- The fill state after a frame record that was stored. -/
def CaptureEngine.stepFill (c : CaptureEngine) : CaptureEngine :=
  { c with fill := c.fill.map (fun f => { f.step with fresh := false }) }

/-- A block for the next entry: the limit, then the free list, then one eviction, else TRUNCATED (R119). -/
def State.storeWithBlock (s : State) (c : Capture) (f : FillState) (samples : List Int) (time : DeviceTime) : State :=
  if s.ce.settings.maxBlocks ≤ c.blocks.length then s.endFilling c true true
  else
    let s1 := if s.ce.free.isEmpty then s.evictOldest else s
    if s1.ce.free.isEmpty then s1.endFilling c true true
    else s1.withCe (s1.ce.storeInNew c f samples time).stepFill

/-- A FILLING capture takes a frame record (R118). -/
def State.captureEntry (s : State) (samples : List Int) (time : DeviceTime) : State :=
  match s.ce.fill, s.ce.filling with
  | some f, some c =>
    if f.takes then
      if needsBlock f (s.ce.lastBlock c) time then s.storeWithBlock c f samples time
      else s.withCe (s.ce.storeInLast c samples).stepFill
    else s.withCe { s.ce with fill := some f.step }
  | _, _ => s

/-! ## The ring (R108, R109) -/

/-- Append an entry to the ring; a full ring drops its oldest. The first entry of an empty ring opens the first
stretch. -/
def CaptureEngine.ringEntry (c : CaptureEngine) (samples : List Int) (time : DeviceTime) : CaptureEngine :=
  { c with ring := appendBounded Config.ringCapacity c.ring
             { samples := samples, time := time, opens := c.ring.isEmpty } }

/-- Mark the entry `lag` frames before the newest as the start of a half cycle. -/
def CaptureEngine.ringMark (c : CaptureEngine) (lag : Nat) : CaptureEngine :=
  { c with ring := c.ring.modify (c.ring.length - 1 - lag) (fun e => { e with opens := true }) }

/-- Empty the ring, zero the count and clear the trigger-ready flag (R109). -/
def CaptureEngine.emptyRing (c : CaptureEngine) : CaptureEngine :=
  { c with ring := [], completeHalves := 0, ready := false }

/-- Count a complete half cycle and set the trigger-ready flag where it is due (R109). -/
def CaptureEngine.countHalf (c : CaptureEngine) (running : Bool) : CaptureEngine :=
  let n := saturatingSucc 8 c.completeHalves
  { c with completeHalves := n, ready := c.ready || (running && decide (c.settings.pre ≤ n)) }

/-! ## Boundaries and spans (R118, R121) -/

/-- The span that follows: THIN after FULL; FULL after THIN with F, T and D taken anew (R114, R118). -/
def FillState.nextSpan (f : FillState) (st : CaptureSettings) : FillState :=
  if f.kind = .full then { f with kind := .thin, boundariesLeft := f.thin, offset := 0, fresh := true }
  else { f with kind := .full, boundariesLeft := st.full, offset := 0, fresh := true, full := st.full,
                thin := st.thin, factor := st.factor }

/-- A boundary ends the span in progress. -/
def FillState.endsSpan (f : FillState) : Bool := decide (f.boundariesLeft ≤ 1)

/-- A boundary counted in the span in progress. -/
def FillState.countSpan (f : FillState) (st : CaptureSettings) : FillState :=
  if f.endsSpan then f.nextSpan st else { f with boundariesLeft := f.boundariesLeft - 1 }

/-- A boundary counted in the post-trigger count and in the manual length. -/
def FillState.countEnds (f : FillState) : FillState :=
  { f with post := f.post.map (fun p => { p with counted := p.counted + 1 }),
           manualLeft := f.manualLeft.map (fun n => n - 1) }

/-- The post-trigger count has reached its P. -/
def FillState.postDone (f : FillState) : Bool :=
  match f.post with
  | some p => decide (p.length ≤ p.counted)
  | none => false

/-- The manual length is over. -/
def FillState.manualDone (f : FillState) : Bool :=
  match f.manualLeft with
  | some n => n == 0
  | none => false

/-- A boundary reaches the fill state: an end of filling comes before the span (R118, R121). -/
def State.fillBoundary (s : State) : State :=
  match s.ce.fill with
  | none => s
  | some f =>
    if f.countEnds.postDone then (s.stopFilling false true).note .postTriggerCountEnd
    else if f.countEnds.manualDone then (s.stopFilling false true).note .manualCaptureEnd
    else
      let s1 := s.withCe { s.ce with fill := some (f.countEnds.countSpan s.ce.settings) }
      if f.endsSpan then s1.note .captureSpanEnd else s1

/-- The Capture Engine takes a boundary at its deciding frame, `lag` frames after the boundary frame. -/
def State.captureBoundary (s : State) (lag : Nat) : State :=
  State.fillBoundary (s.withCe ((s.ce.ringMark lag).countHalf (s.cc.measurement == .running)))

/-! ## Decisions and discard (R123, R124) -/

/-- Raise a decision by a capture action (R123). -/
def CaptureDecision.apply (d : CaptureDecision) : CaptureAction → CaptureDecision
  | .priority => .priority
  | .normal => if d = .undecided then .keep else d
  | .discard => d

/-- The discard test after an event's action (R124): an EVENT capture still UNDECIDED. Every event joined to it has
closed, since the one open event is the one that closes now. -/
def Capture.discardable (c : Capture) : Bool := c.origin == .event && c.decision == .undecided

/-- Discard a capture (R124): a READING one keeps the result of the test until its readout ends (R128). -/
def State.discardCapture (s : State) (c : Capture) : State :=
  match c.state with
  | .reading => s.withCe (s.ce.update c.ident (fun x => { x with discardDue := true }))
  | .settled => s.removeCapture c
  | .filling => State.removeCapture (s.withCe { s.ce with fill := none }) c

/-- Apply an event's capture action to the capture that lists it, start the post-trigger count of a FILLING one at a
boundary, and make the discard test (R123, R124). Past the greatest event ident (R97) two captures can list one ident;
the manual does not say which of them the action reaches, and the model takes the first in directory order (DESIGN
CHOICE, assumption 33). -/
def State.applyAction (s : State) (ident : Nat) (action : CaptureAction) (atBoundary : Bool) : State :=
  match s.ce.directory.find? (fun x => x.joined.contains ident) with
  | none => s
  | some c =>
    let ce := s.ce.update c.ident (fun x => { x with decision := x.decision.apply action })
    let start := atBoundary && c.state == .filling
    let s1 := s.withCe { ce with
      fill := if start then ce.fill.map (fun f => { f with post := some ⟨0, ce.settings.post⟩ }) else ce.fill }
    if Capture.discardable { c with decision := c.decision.apply action } then s1.discardCapture c else s1

/-- The readout of a capture has ended: SETTLED, or discarded where its discard test has succeeded during it (R128). -/
def State.endReadout (s : State) (ident : Nat) : State :=
  match s.ce.find ident with
  | none => s
  | some c =>
    if c.state = .reading then
      if c.discardDue then s.removeCapture c
      else s.withCe (s.ce.update ident (fun x => { x with state := .settled }))
    else s

end Sys2Proof.Machine
end

