-- ==== Sys2Proof/Machine/Timebase.lean ====
section
/-! DEFINITION. Machine/Timebase.lean: advances of device time and what follows them, and waking (chapter 10). -/

namespace Sys2Proof.Machine

/-! ## Advances (R168) -/

/-- One tick more on the running duration of an open event (R67), or past its ceiling. -/
def EventContext.tick (x : EventContext) : EventContext :=
  { x with
    running := saturatingSucc Config.maxDuration x.running
    overrun := if x.running < Config.maxDuration then x.overrun else x.overrun + 1 }

/-- Device time stands at its ceiling (R168). -/
def Timebase.atCeiling (t : Timebase) : Bool := t.now.next == t.now

/-- The open interval's end is reached (R137). -/
def State.intervalDue (s : State) : Bool := s.tb.now == ⟨s.iu.current.endSec, 0⟩

/-- The closing interval's last moment, E plus 48 ticks, is reached (R137). -/
def State.closingDue (s : State) : Bool :=
  match s.iu.closing with
  | none => false
  | some v => decide (v.endSec * Config.ticksPerSecond + Config.closingTicks ≤ s.tb.now.toTicks)

/-- Close the closing interval at E plus 48 ticks. -/
def State.testClosing (s : State) : State :=
  if s.closingDue then (s.note .closingIntervalTimeout).closeClosing else s

/-- Open the successor at the open interval's end. -/
def State.testInterval (s : State) : State := if s.intervalDue then s.reachIntervalEnd else s

/-! ## Standby and waking (R150, R177) -/

/-- The FLU's values at the entry to standby (R150). -/
def FrameLink.enterStandby (f : FrameLink) : FrameLink := { f with checkCount := 0, silence := 0 }

/-- The FLU's values at wake (R150). The words of an inbound candidate held since before standby are dropped, whatever the
cause: R150 and R177 do not list them (DESIGN CHOICE, assumption 42). -/
def FrameLink.wake (f : FrameLink) : FrameLink :=
  { f with lane := .hunt, lastSeq := none, lastFrame := none, checkCount := 0, silence := 0, sinceReference := 0,
           timeoutPassed := false, returnPosition := .word0, inboundWords := [] }

/-- Standby ends at a wake cause (R177). -/
def State.wake (s : State) (c : WakeCause) : State :=
  let s1 := s.withTb { s.tb with lastWake := some c, power := .run, countdown := none }
  ((s1.withFl s1.fl.wake).raise .linkChanged).raise .woke

/-- The wake countdown after an advance: one less at a second change (R176). -/
def Timebase.count (t : Timebase) : Timebase :=
  { t with countdown := if t.now.tick = 0 then t.countdown.map (fun n => n - 1) else t.countdown }

/-- The wake countdown steps with an advance that has been made, and at 0 the timer wakes the part (R176, R177). -/
def State.testCountdown (s : State) : State :=
  let s1 := s.withTb s.tb.count
  if s1.tb.countdown = some 0 then (s1.note .wakeTimerExpiry).wake .wakeTimer else s1

/-- One advance of device time (R168): the running duration of an open event; then, unless time is at its ceiling, the
time, the open interval's span, an interval's end, a closing interval's last moment, and the wake countdown. Where an
interval's end and the wake timer's expiry fall on one second change, R178 lets either be taken first: the model takes the
interval's end first (DESIGN CHOICE, assumption 39). -/
def State.advance (s : State) : State :=
  let s1 := s.withEt (s.et.update EventContext.tick)
  if s1.tb.atCeiling then s1
  else
    let s2 := s1.withTb { s1.tb with now := s1.tb.now.next }
    let s3 := s2.withIu { s2.iu with current := { s2.iu.current with span := s2.iu.current.span + 1 } }
    s3.testInterval.testClosing.testCountdown

/-- n advances in succession. -/
def State.advanceBy : Nat → State → State
  | 0, s => s
  | n + 1, s => State.advanceBy n s.advance

/-- The source becomes LOCAL: an open event and the open interval gain TIME_LOCAL (R170). -/
def State.sourceLocal (s : State) : State :=
  let s1 := s.withTb { s.tb with source := .localOsc }
  (s1.flagEvent .timeLocal true).markInterval .timeLocal true

/-- The source becomes FRAME (R169). -/
def State.sourceFrame (s : State) : State := s.withTb { s.tb with source := .frame }

end Sys2Proof.Machine
end

