-- ==== Sys2Proof/Machine/Events.lean ====
section
/-! DEFINITION. Machine/Events.lean: the Event Tracker (chapter 5): detectors, the event context, opening, closing,
cutting, and loss declarations. -/

namespace Sys2Proof.Machine

/-! ## Detectors (R65) -/

/-- One test of a detector against its channel's levels. -/
def Detector.test (d : Detector) (v : Levels) (r : Nat) : Detector :=
  match d with
  | .normal =>
    if r < v.intStart then .intr else if r < v.dipStart then .dip else if v.swellStart < r then .swell else .normal
  | .dip =>
    if r < v.intStart then .intr else if v.swellStart < r then .swell else if v.dipEnd ≤ r then .normal else .dip
  | .intr =>
    if r < v.intEnd then .intr else if r < v.dipEnd then .dip else if v.swellStart < r then .swell else .normal
  | .swell =>
    if r < v.intStart then .intr else if r < v.dipStart then .dip else if r ≤ v.swellEnd then .normal else .swell

/-- Every detector NORMAL. -/
def allNormal : PerPhase Detector := ⟨.normal, .normal, .normal⟩

/-- The detectors after the test of a boundary (R64): a watched one is tested where a value is delivered. -/
def testDetectors (ds : PerPhase Detector) (watched : PerPhase Bool) (levels : PerPhase Levels)
    (rms : PerPhase (Option Refreshed)) : PerPhase Detector :=
  PerPhase.of (fun p =>
    if watched.get p then
      match rms.get p with
      | some r => (ds.get p).test (levels.get p) r.value
      | none => ds.get p
    else ds.get p)

/-- Every watched detector meets a condition. -/
def watchedAll (watched : PerPhase Bool) (ds : PerPhase Detector) (c : Detector → Bool) : Bool :=
  phases.all (fun p => !watched.get p || c (ds.get p))

/-- Some phase is watched and every watched detector is INTR (R70). -/
def allIntr (watched : PerPhase Bool) (ds : PerPhase Detector) : Bool :=
  watched.any && watchedAll watched ds (fun d => d == .intr)

/-! ## The context at a tested boundary (R69, R70) -/

/-- A channel in DIP or INTR. -/
def Detector.low : Detector → Bool
  | .dip => true
  | .intr => true
  | .normal => false
  | .swell => false

/-- The dip extreme with a value more: replaced only by a strictly lower one. -/
def lowerExtreme (x : Option Extreme) (v : Nat) (p : Phase) : Option Extreme :=
  match x with
  | none => some ⟨v, p⟩
  | some e => if v < e.value then some ⟨v, p⟩ else some e

/-- The swell extreme with a value more: replaced only by a strictly higher one. -/
def higherExtreme (x : Option Extreme) (v : Nat) (p : Phase) : Option Extreme :=
  match x with
  | none => some ⟨v, p⟩
  | some e => if e.value < v then some ⟨v, p⟩ else some e

/-- One watched channel's part in the context (R69). -/
def EventContext.takeChannel (x : EventContext) (p : Phase) (d : Detector) (r : Nat) : EventContext :=
  match d with
  | .normal => x
  | .swell => { x with involved := x.involved.set p true, swellSeen := true, swell := higherExtreme x.swell r p }
  | .dip => { x with involved := x.involved.set p true, dipSeen := true, dip := lowerExtreme x.dip r p }
  | .intr => { x with involved := x.involved.set p true, dipSeen := true, dip := lowerExtreme x.dip r p }

/-- The marks of the watched channels' values as event flags (R69). -/
def markFlags (watched : PerPhase Bool) (rms : PerPhase (Option Refreshed)) : BitVec 13 :=
  let has (g : Refreshed → Bool) : Bool :=
    phases.any (fun p => watched.get p && ((rms.get p).map g).getD false)
  EventFlag.when .patched (has (·.patched)) ||| EventFlag.when .clipped (has (·.clipped)) |||
    EventFlag.when .heldBoundaries (has (·.held))

/-- Involvement, extremes, seen marks and flags of a tested boundary (R69). -/
def EventContext.take (x : EventContext) (watched : PerPhase Bool) (ds : PerPhase Detector)
    (rms : PerPhase (Option Refreshed)) : EventContext :=
  let y := phases.foldl (fun c p =>
    if watched.get p then
      match rms.get p with
      | some r => c.takeChannel p (ds.get p) r.value
      | none => c
    else c) x
  { y with flags := y.flags ||| markFlags watched rms }

/-- The running duration `lag` ticks ago: the ticks counted up to then, at most the ceiling (R66, R67). -/
def EventContext.runningAt (x : EventContext) (lag : Nat) : Nat :=
  min Config.maxDuration (x.running + x.overrun - lag)

/-- The interruption duration with the ticks of a stretch added (R70): the difference of the running durations at its end
and at its start, each at most the ceiling, so that no tick past the ceiling counts (DESIGN CHOICE, assumption 43). -/
def addStretch (interruption start stop : Nat) : Nat := min Config.maxDuration (interruption + (stop - start))

/-- End a stretch in progress at a running duration. -/
def EventContext.endStretch (x : EventContext) (at_ : Nat) : EventContext :=
  match x.stretch with
  | none => x
  | some b => { x with stretch := none, interruption := addStretch x.interruption b at_ }

/-- Begin a stretch at a running duration, where none is in progress. -/
def EventContext.beginStretch (x : EventContext) (at_ : Nat) : EventContext :=
  match x.stretch with
  | none => { x with stretch := some at_, interruptionSeen := true }
  | some _ => x

/-- The stretch at a tested boundary (R70). -/
def EventContext.takeStretch (x : EventContext) (intr : Bool) (at_ : Nat) : EventContext :=
  if intr then x.beginStretch at_ else x.endStretch at_

/-! ## Kind (R73) -/

def EventContext.supplyKind (x : EventContext) : SupplyKind :=
  if x.interruptionSeen then .interruption
  else if x.dipSeen && x.swellSeen then .mixed
  else if x.dipSeen then .dip
  else .swell

/-- The first watched channel in the order L1, L2, L3. -/
def firstWatched (watched : PerPhase Bool) : Phase := (phases.find? (fun p => watched.get p)).getD .l1

/-- An INTERRUPTION with no dip extreme has 0 cV on the first watched channel (R73). -/
def EventContext.finish (x : EventContext) (watched : PerPhase Bool) : EventContext :=
  if x.supplyKind = .interruption ∧ x.dip = none then { x with dip := some ⟨0, firstWatched watched⟩ } else x

/-! ## Records from the context (R96, R99) -/

/-- The OPEN record of an event as its opening gives it. -/
def EventContext.openRecord (x : EventContext) : EventRecord :=
  { ident := x.ident
    kind := match x.kind with
      | .supply => .supply
      | .gap => .gap
    closed := false, start := x.start, duration := none, supplyKind := none, interruption := none
    involved := match x.kind with
      | .supply => some x.involved
      | .gap => none
    dip := x.dip, swell := x.swell, classCell := none, swellCell := none, capture := none, flags := x.flags
    times := none }

/-- Complete the record of a SUPPLY event: the fields of the event, the register's own flags kept (R99). -/
def EventContext.completeSupply (x : EventContext) (duration : Nat) (p : Placement) (code : Nat)
    (r : EventRecord) : EventRecord :=
  { r with
    closed := true, duration := some (DeviceTime.ofTicks duration), supplyKind := some x.supplyKind
    interruption := if x.supplyKind = .interruption then some (DeviceTime.ofTicks x.interruption) else none
    involved := some x.involved, dip := x.dip, swell := x.swell, classCell := some (code, p.cell)
    swellCell := p.second, capture := x.capture, flags := x.flags ||| (r.flags &&& registerFlags) }

/-- Complete the record of a GAP event. -/
def EventContext.completeGap (x : EventContext) (duration : Nat) (r : EventRecord) : EventRecord :=
  { r with closed := true, duration := some (DeviceTime.ofTicks duration),
           flags := x.flags ||| (r.flags &&& registerFlags) }

/-! ## Handing on (R74) -/

/-- Empty the context. -/
def State.emptyContext (s : State) : State := s.withEt { s.et with context := none }

/-- Raise EVENT_CLOSED and offer the CLOSE push (R85). -/
def State.announceClose (s : State) (ident : Nat) : State := (s.raise .eventClosed).offerEventPush ident .closed

/-- Raise EVENT_OPENED and offer the OPEN push (R85). -/
def State.announceOpen (s : State) (ident : Nat) : State := (s.raise .eventOpened).offerEventPush ident .opened

/-- Hand on a SUPPLY event that closes or is cut, with its duration: classify, complete the record, apply the capture
action, empty the context, announce (R74). -/
def State.handOnSupply (s : State) (x : EventContext) (duration : Nat) (atBoundary : Bool) : State :=
  let y := x.finish s.watchedSet
  let p := placeEvent s.cm.bounds s.ps.unoms y.supplyKind y.dip y.swell duration
  let c := s.cm.cell p.cell
  let s1 := s.withCm (s.cm.count p y.stored)
  let s2 := if y.stored then s1.withEr (s1.er.update y.ident (y.completeSupply duration p c.code)) else s1
  let s3 := s2.applyAction y.ident c.action atBoundary
  s3.emptyContext.announceClose y.ident

/-- Hand on a GAP event that closes (R74, R81). -/
def State.handOnGap (s : State) (x : EventContext) (duration : Nat) : State :=
  let s1 := if x.stored then s.withEr (s.er.update x.ident (x.completeGap duration)) else s
  s1.emptyContext.announceClose x.ident

/-! ## Opening (R68, R80) -/

/-- The time flags of an event at its opening (R72). -/
def State.openFlags (s : State) : BitVec 13 :=
  EventFlag.when .timeLocal (s.tb.source == .localOsc) ||| EventFlag.when .timeUnset s.tb.unset

/-- The empty content of an event that opens. -/
def State.newContext (s : State) (kind : OpenKind) (start : DeviceTime) (running : Nat) : EventContext :=
  { ident := s.er.ident, kind := kind, stored := false, start := start, running := running, overrun := 0,
    involved := ⟨false, false, false⟩, dip := none, swell := none, dipSeen := false, swellSeen := false,
    stretch := none, interruption := 0, interruptionSeen := false, flags := s.openFlags, capture := none }

/-- Take the ident, set the context, and ask the register to store the record; its answer becomes the context's
record-stored item (R68 steps 1 to 4, R80 steps 1 to 4). -/
def State.enterContext (s : State) (x : EventContext) : State :=
  let stored := s.er.stores s.er.mayStore
  let s1 := s.takeIdent.withEt { s.et with context := some { x with stored := stored } }
  s1.storeRecord x.openRecord s.er.mayStore

/-- A SUPPLY event opens at a boundary decided `lag` frames after its frame, whose device time is `start` (R68). -/
def State.openSupply (s : State) (rms : PerPhase (Option Refreshed)) (start : DeviceTime) (lag : Nat) : State :=
  let x0 := s.newContext .supply start lag
  let x1 := (x0.take s.watchedSet s.et.detectors rms).takeStretch (allIntr s.watchedSet s.et.detectors) 0
  let s1 := s.enterContext x1
  State.announceOpen (s1.offerCapture x1.ident x1.start) x1.ident

/-- A GAP event opens at this moment (R80). -/
def State.openGap (s : State) : State :=
  let x := s.newContext .gap s.tb.now 0
  State.announceOpen (State.enterContext (s.withEt { s.et with detectors := allNormal }) x) x.ident

/-! ## A boundary with refreshed values (R64, R71, R81) -/

/-- An open GAP event closes at the first boundary with refreshed values (R81). -/
def State.closeGap (s : State) (lag : Nat) : State :=
  match s.et.context with
  | none => s
  | some x =>
    match x.kind with
    | .supply => s
    | .gap => s.handOnGap x (x.runningAt lag)

/-- After the test: open, continue or close the SUPPLY event (R68 to R71). -/
def State.actOnDetectors (s : State) (rms : PerPhase (Option Refreshed)) (start : DeviceTime) (lag : Nat) : State :=
  match s.et.context with
  | none =>
    if watchedAll s.watchedSet s.et.detectors (fun d => d == .normal) then s
    else s.openSupply rms start lag
  | some x =>
    let y := (x.take s.watchedSet s.et.detectors rms).takeStretch (allIntr s.watchedSet s.et.detectors)
      (x.runningAt lag)
    let s1 := s.withEt { s.et with context := some y }
    if watchedAll s.watchedSet s.et.detectors (fun d => d == .normal) then
      s1.handOnSupply y (y.runningAt lag) true
    else s1

/-- The Event Tracker at a boundary that delivers refreshed values: `start` is the boundary's device time, `lag` the
frames from its frame to the deciding frame. -/
def State.eventBoundary (s : State) (rms : PerPhase (Option Refreshed)) (start : DeviceTime) (lag : Nat) : State :=
  let s1 := s.closeGap lag
  let s2 := s1.withEt { s1.et with detectors := testDetectors s1.et.detectors s1.watchedSet s1.ps.levels rms }
  s2.actOnDetectors rms start lag

/-! ## Cuts (R75, R76) -/

/-- Every detector is set to NORMAL. -/
def State.normalDetectors (s : State) : State := s.withEt { s.et with detectors := allNormal }

/-- Cut an open SUPPLY event at this moment with a flag (R75). -/
def State.cutSupply (s : State) (x : EventContext) (f : EventFlag) : State :=
  let y := (x.endStretch x.running)
  let z := { y with flags := setFlag y.flags f }
  State.handOnSupply (State.normalDetectors (s.withEt { s.et with context := some z })) z z.running false

/-- STOP reaches the Event Tracker (R76). -/
def State.stopEvents (s : State) : State :=
  match s.et.context with
  | none => s.normalDetectors
  | some x =>
    match x.kind with
    | .supply => s.cutSupply x .cutByStop
    | .gap => State.normalDetectors (s.handOnGap x x.running)

/-! ## Loss declarations (R77, R78) -/

/-- The presumption: LINK_LOSS, every watched detector INTR and its channel involved, a stretch (R78). -/
def State.presume (s : State) (x : EventContext) : State :=
  let y := x.beginStretch x.running
  let z := { y with flags := setFlag y.flags .linkLoss, involved := y.involved.or s.watchedSet }
  s.withEt { context := some z,
             detectors := PerPhase.of (fun p => if s.watchedSet.get p then .intr else s.et.detectors.get p) }

/-- The Event Tracker acts on a loss declaration (R77). -/
def State.lossEvents (s : State) : State :=
  if s.cc.measurement = .suspended then
    match s.et.context with
    | none => s.openGap
    | some x =>
      match x.kind with
      | .gap => s
      | .supply =>
        if watchedAll s.watchedSet s.et.detectors Detector.low then s.presume x
        else State.openGap (s.cutSupply x .cutByGap)
  else s

end Sys2Proof.Machine
end

