-- ==== Sys2Proof/Machine/Tracker.lean ====
section
/-! DEFINITION. Machine/Tracker.lean: the Cycle Tracker (chapter 2): the examination of reference samples, accepted and
forced boundaries, the tracker's state, segments and their frequency, and the choice of the reference. -/

namespace Sys2Proof.Machine

/-! ## Samples (R19, R20) -/

def Side.opposite : Side → Side
  | .positive => .negative
  | .negative => .positive

/-- The half-width h of the hysteresis band (R19). -/
def bandHalf (unom : Nat) : Nat := unom / 16

/-- The side on which a sample lies beyond the band. -/
def beyondBand (h : Nat) (x : Int) : Option Side :=
  if (h : Int) < x then some .positive else if x < -(h : Int) then some .negative else none

/-- The sign of a sample; 0 has none. -/
def sampleSign (x : Int) : Option Side := if 0 < x then some .positive else if x < 0 then some .negative else none

/-- While the polarity is NONE: four consecutive samples beyond the band on one side set it (R19). -/
def Tracker.acquirePolarity (t : Tracker) (h : Nat) (x : Int) : Tracker :=
  match beyondBand h x with
  | none => { t with candidate := .absent }
  | some side =>
    match t.candidate with
    | .counting sd n =>
      if sd = side then
        if 4 ≤ n + 1 then { t with polarity := some side, candidate := .absent }
        else { t with candidate := .counting side (n + 1) }
      else { t with candidate := .counting side 1 }
    | .absent => { t with candidate := .counting side 1 }
    | .crossing _ _ => { t with candidate := .counting side 1 }

/-- With no candidate held, a sample whose sign is opposite to the polarity becomes the candidate (R20). -/
def Tracker.seek (t : Tracker) (pol : Side) (x : Int) : Tracker :=
  if sampleSign x = some pol.opposite then { t with candidate := .crossing t.position 0 }
  else { t with candidate := .absent }

/-- The examination of a reference sample at the tracker's position: the tracker after it, and the candidate position
of a crossing that it confirms (R19 to R21). A repeated (substituted) sample is examined like any other: one inside the
band and opposite to the polarity fails the candidate and becomes the new one at every repetition, by R20's sentence on
a failing sample, and not by its last sentence, that no candidate starts after the first repeated sample: the model's
choice between the two (DESIGN CHOICE, assumption 29). -/
def Tracker.examine (t : Tracker) (h : Nat) (x : Int) : Tracker × Option Nat :=
  match t.polarity with
  | none => (t.acquirePolarity h x, none)
  | some pol =>
    match t.candidate with
    | .crossing c n =>
      if beyondBand h x = some pol.opposite then
        if 3 ≤ n + 1 then ({ t with polarity := some pol.opposite, candidate := .absent }, some c)
        else ({ t with candidate := .crossing c (n + 1) }, none)
      else (t.seek pol x, none)
    | .absent => (t.seek pol x, none)
    | .counting _ _ => (t.seek pol x, none)

/-! ## The device times of late frames (R23, R172) -/

/-- Keep the device time of a frame at position 98 or beyond. -/
def Tracker.stamp (t : Tracker) (time : DeviceTime) : Tracker :=
  if Config.acceptFrom ≤ t.position then { t with lateTimes := t.lateTimes ++ [time] } else t

/-- The device time, in the present count, of the frame at a position of 98 or beyond. -/
def Tracker.timeAt (t : Tracker) (position : Nat) : DeviceTime :=
  (t.lateTimes[position - Config.acceptFrom]?).getD ⟨0, 0⟩

/-- A SET TIME moves the kept times into the new count (R172): the newest frame takes the new time, each one before it
one tick less, and none less than 0 s + 0 ticks (the model's choice, assumption 19). -/
def Tracker.recount (t : Tracker) (new : DeviceTime) : Tracker :=
  { t with lateTimes := (List.range t.lateTimes.length).map (fun i => new.back (t.lateTimes.length - 1 - i)) }

/-! ## Boundaries (R21 to R23) -/

/-- A boundary decided: its kind, the position of its frame, and the position of the deciding frame. -/
structure Decision where
  kind : BoundaryKind
  frame : Nat
  deciding : Nat
deriving DecidableEq, Repr

/-- The frames from the boundary frame to the deciding frame (R23). -/
def Decision.lag (d : Decision) : Nat := d.deciding - d.frame

/-- A candidate with position 143 or less is still in debounce: the force waits (R22). -/
def Tracker.waits (t : Tracker) : Bool :=
  t.reference.isSome &&
    (match t.candidate with
     | .crossing c _ => decide (c ≤ Config.forceAt)
     | .absent => false
     | .counting _ _ => false)

/-- The place of a forced boundary (R22). -/
def Tracker.forcedPlace (t : Tracker) (nominal : Nat) : Nat :=
  match t.state with
  | .acquire => if t.early then Config.acceptFrom else nominal
  | .locked => t.lastGood
  | .hold => if t.early then Config.acceptFrom else t.lastGood

/-- A force at the tracker's position, once it is 143 or later and nothing is waited for. -/
def Tracker.force (t : Tracker) (nominal : Nat) : Option Decision :=
  if Config.forceAt ≤ t.position ∧ t.waits = false then some ⟨.synthetic, t.forcedPlace nominal, t.position⟩ else none

/-- A scaled frame at the tracker's position, with the reference's sample where there is a reference: the tracker
after it (its position not yet moved on), and the boundary that the frame decides (R19 to R22). -/
def Tracker.frame (t : Tracker) (h : Nat) (x : Option Int) (nominal : Nat) : Tracker × Option Decision :=
  match x with
  | none => (t, t.force nominal)
  | some v =>
    let e := t.examine h v
    match e.2 with
    | some c =>
      if c < Config.acceptFrom then ({ e.1 with early := true }, Tracker.force { e.1 with early := true } nominal)
      else (e.1, some ⟨.accepted, c, t.position⟩)
    | none => (e.1, e.1.force nominal)

/-! ## Half cycles and segments (R25, R27, R28, R30, R31) -/

/-- The half cycle that a boundary ends is held: a synthetic end, or an opening boundary that was not an accepted
crossing, or the first stretch (R25). The accepted run is 0 in just the last two cases (R27). -/
def Tracker.heldBy (t : Tracker) (k : BoundaryKind) : Bool := k == .synthetic || t.acceptedRun == 0

/-- The half cycles of a segment. -/
def Tracker.segmentHalves (t : Tracker) : Nat := 2 * t.cycles

/-- The half cycles of the segment when this boundary is counted, where a segment is open. -/
def Tracker.segmentIndex (t : Tracker) : Option Nat := t.segmentCount.map (· + 1)

/-- The boundary is a segment end (R30). -/
def Tracker.endsSegment (t : Tracker) : Bool :=
  match t.segmentIndex with
  | some n => decide (t.segmentHalves ≤ n)
  | none => false

/-- The segment frequency (R31): absent unless the opening and every closing boundary were accepted crossings. -/
def Tracker.segmentFreq (t : Tracker) (d : Decision) : Option Nat :=
  if t.segmentAccepted && d.kind == .accepted then
    some (roundHalfUp (12800000 * t.cycles) (t.segmentFrames + d.frame))
  else none

/-- The segment counts after a boundary (R30, R31). -/
def Tracker.countSegment (t : Tracker) (d : Decision) : Tracker :=
  match t.segmentIndex with
  | none => { t with segmentCount := some 0, segmentFrames := 0, segmentAccepted := d.kind == .accepted }
  | some n =>
    if t.segmentHalves ≤ n then
      { t with segmentCount := some 0, segmentFrames := 0, segmentAccepted := d.kind == .accepted }
    else
      { t with segmentCount := some n, segmentFrames := t.segmentFrames + d.frame,
               segmentAccepted := t.segmentAccepted && d.kind == .accepted }

/-- The accepted run after a boundary (R27). -/
def Tracker.nextRun (t : Tracker) (k : BoundaryKind) : Nat :=
  match k with
  | .accepted => saturatingSucc 2 t.acceptedRun
  | .synthetic => 0

/-- The tracker state after a boundary with the reference chosen at it (R27): without a reference ACQUIRE and HOLD stay
as they are. -/
def Tracker.nextState (t : Tracker) (k : BoundaryKind) (reference : Option Phase) : TrackerState :=
  match t.state, k with
  | .acquire, .accepted => if t.nextRun .accepted = 2 ∧ reference.isSome = true then .locked else .acquire
  | .acquire, .synthetic => .acquire
  | .locked, .synthetic => .hold
  | .locked, .accepted => if reference.isNone then .hold else .locked
  | .hold, .accepted => if t.nextRun .accepted = 2 ∧ reference.isSome = true then .locked else .hold
  | .hold, .synthetic => .hold

/-- The last good half period after a boundary (R28). -/
def Tracker.nextLastGood (t : Tracker) (d : Decision) : Nat :=
  if d.kind = .accepted ∧ 1 ≤ t.acceptedRun then d.frame else t.lastGood

/-- A candidate carried into the new half cycle is counted from its boundary frame (R23). One kept while there is no
reference (R18) can lie before that frame, where the new count has no position: it stays at 0 (DESIGN CHOICE, assumption
44). -/
def Candidate.carry (c : Candidate) (k : Nat) : Candidate :=
  match c with
  | .crossing p n => .crossing (p - k) n
  | .absent => .absent
  | .counting sd n => .counting sd n

/-- The choice of a reference: a change of channel, or a channel after none, makes the polarity NONE and drops the
candidate (R18). -/
def Tracker.choose (t : Tracker) (reference : Option Phase) : Tracker :=
  if reference.isSome ∧ reference ≠ t.reference then
    { t with reference := reference, polarity := none, candidate := .absent }
  else { t with reference := reference }

/-- The new half cycle after a boundary: positions counted from its frame, the early mark clear (R23). -/
def Tracker.beginHalf (t : Tracker) (d : Decision) : Tracker :=
  { t with position := d.lag + 1, early := false, candidate := t.candidate.carry d.frame, lateTimes := [] }

/-- The tracker after a boundary (R18, R23, R27, R28, R30). -/
def Tracker.boundary (t : Tracker) (d : Decision) (reference : Option Phase) : Tracker :=
  let u := { t with state := t.nextState d.kind reference, acceptedRun := t.nextRun d.kind,
                    lastGood := t.nextLastGood d }
  ((u.countSegment d).beginHalf d).choose reference

/-- The tracker enters HOLD at a boundary (R27). -/
def Tracker.entersHold (t : Tracker) (k : BoundaryKind) (reference : Option Phase) : Bool :=
  t.state != .hold && t.nextState k reference == .hold

/-- The tracker's restart values, with the reference chosen (R17, R18). -/
def Tracker.restart (t : Tracker) (reference : Option Phase) : Tracker :=
  { t with state := .acquire, reference := reference, polarity := none, candidate := .absent, position := 0,
           early := false, acceptedRun := 0, segmentCount := none, segmentFrames := 0, segmentAccepted := false,
           lateTimes := [] }

/-! ## The choice of the reference (R18) -/

/-- A phase can be the reference: a slot holds its role, it is in the active mask, and its last refreshed RMS, where
there is one, is at or above its interruption-end level. -/
def State.mayRefer (s : State) (p : Phase) : Bool :=
  s.watched p &&
    (match s.re.refreshed.get p with
     | none => true
     | some r => decide ((s.ps.levels.get p).intEnd ≤ r.value))

/-- The reference that R18 chooses as things stand. -/
def State.chooseReference (s : State) : Option Phase := phases.find? s.mayRefer

end Sys2Proof.Machine
end

