-- ==== Sys2Proof/Machine/Rms.lean ====
section
/-! DEFINITION. Machine/Rms.lean: scaled frame records (R8, R9) and the RMS Engine (chapter 3). -/

namespace Sys2Proof.Machine

/-! ## Frame records (R8, R9) -/

/-- A scaled sample with its clipped mark. -/
structure Scaled where
  value : Int
  clipped : Bool
deriving DecidableEq, Repr

/-- The record that the Channel Conditioner hands on for a scaled frame (R9). -/
structure FrameRecord where
  values : PerChannel (Option Scaled)
  substituted : Bool
deriving DecidableEq, Repr

/-- The scaled sample of one slot. -/
def scaleSlot (e : ChannelEntry) (c : FrameContent) (i : Fin 8) : Scaled :=
  { value := scaleSample e.gain e.offset c.samples[i]
    clipped := sampleClipped e.gain e.offset c.samples[i] (c.overload.getLsbD i.val) }

/-- The scaled sample of a channel, where some slot holds its role (R8). -/
def Conditioner.scale (c : Conditioner) (f : FrameContent) (ch : Channel) : Option Scaled :=
  (c.slotOf ch.role).map (fun i => scaleSlot c.table[i] f i)

/-- The record of a frame (R9). -/
def Conditioner.record (c : Conditioner) (f : FrameContent) (substituted : Bool) : FrameRecord :=
  { values := PerChannel.of (c.scale f), substituted := substituted }

/-- The samples of the evaluated channels present, in order (R108). -/
def FrameRecord.samples (r : FrameRecord) : List Int := r.values.toList.filterMap (fun x => x.map (·.value))

/-- The pending pairs take the place of gain and offset (R6). -/
def ChannelEntry.applyPair (e : ChannelEntry) : ChannelEntry :=
  match e.awaiting with
  | none => e
  | some p => { e with gain := p.gain, offset := p.offset, awaiting := none }

/-- Every pending pair is applied (R6). -/
def Conditioner.applyPairs (c : Conditioner) : Conditioner := { c with table := c.table.map ChannelEntry.applyPair }

/-- Some pair is pending. -/
def Conditioner.pairPending (c : Conditioner) : Bool := c.table.toList.any (fun e => e.awaiting.isSome)

/-! ## Sums (R34) -/

def squareOf (x : Option Scaled) : Nat :=
  match x with
  | none => 0
  | some v => v.value.natAbs * v.value.natAbs

def clippedOf (x : Option Scaled) : Bool :=
  match x with
  | none => false
  | some v => v.clipped

/-- A frame record as an entry of the late list. -/
def FrameRecord.lateEntry (r : FrameRecord) : LateEntry :=
  { squares := r.values.map squareOf, clipped := r.values.map clippedOf, substituted := r.substituted }

def addSums (a b : PerChannel Nat) : PerChannel Nat := ⟨a.l1 + b.l1, a.l2 + b.l2, a.l3 + b.l3, a.ne + b.ne⟩

def orMarks (a b : PerChannel Bool) : PerChannel Bool := ⟨a.l1 || b.l1, a.l2 || b.l2, a.l3 || b.l3, a.ne || b.ne⟩

def noSums : PerChannel Nat := ⟨0, 0, 0, 0⟩

def noMarks : PerChannel Bool := ⟨false, false, false, false⟩

/-- An entry into the early sums and marks. -/
def RmsEngine.addEarly (r : RmsEngine) (e : LateEntry) : RmsEngine :=
  { r with earlySums := addSums r.earlySums e.squares, earlyClipped := orMarks r.earlyClipped e.clipped,
           earlyCount := r.earlyCount + 1, earlyPatched := r.earlyPatched || e.substituted }

/-- A frame record at a position of the current half cycle (R34). -/
def RmsEngine.take (r : RmsEngine) (position : Nat) (x : FrameRecord) : RmsEngine :=
  if position < Config.acceptFrom then r.addEarly x.lateEntry else { r with late := r.late ++ [x.lateEntry] }

/-! ## Closing a half cycle (R35) -/

/-- The late entries that belong to the half cycle ended by a boundary frame at position k. -/
def RmsEngine.lateBefore (r : RmsEngine) (k : Nat) : List LateEntry := r.late.take (k - Config.acceptFrom)

/-- The late entries that open the new half cycle. -/
def RmsEngine.lateFrom (r : RmsEngine) (k : Nat) : List LateEntry := r.late.drop (k - Config.acceptFrom)

/-- The closed half cycle (R35, step 2). -/
def RmsEngine.closedHalf (r : RmsEngine) (k : Nat) (held : Bool) : HalfCycle :=
  { sums := (r.lateBefore k).foldl (fun a e => addSums a e.squares) r.earlySums
    clipped := (r.lateBefore k).foldl (fun a e => orMarks a e.clipped) r.earlyClipped
    count := k
    patched := r.earlyPatched || (r.lateBefore k).any (·.substituted)
    held := held }

/-- The new half cycle from the late entries at the boundary frame and after it (R35, step 3). -/
def RmsEngine.openHalf (r : RmsEngine) (k : Nat) : RmsEngine :=
  (r.lateFrom k).foldl RmsEngine.addEarly
    { r with earlySums := noSums, earlyClipped := noMarks, earlyCount := 0, earlyPatched := false, late := [] }

/-- The refreshed RMS of a channel over two half cycles (R36, R39). -/
def refreshedOf (a b : HalfCycle) (c : Channel) : Refreshed :=
  { value := exactRoot (a.sums.get c + b.sums.get c) (a.count + b.count)
    patched := a.patched || b.patched
    clipped := a.clipped.get c || b.clipped.get c
    held := a.held || b.held }

/-- The refreshed RMS values of the phase channels present (R36). -/
def refreshedValues (a b : HalfCycle) (present : PerPhase Bool) : PerPhase (Option Refreshed) :=
  PerPhase.of (fun p => if present.get p then some (refreshedOf a b p.channel) else none)

/-! ## Segments (R40) -/

/-- A closed half cycle is added to the segment, if one is open. -/
def RmsEngine.addToSegment (r : RmsEngine) (h : HalfCycle) : RmsEngine :=
  match r.segment with
  | none => r
  | some g =>
    { r with segmentSums := addSums r.segmentSums h.sums, segmentClipped := orMarks r.segmentClipped h.clipped,
             segment := some { count := g.count + h.count, patched := g.patched || h.patched,
                               held := g.held || h.held } }

/-- A segment opens at 0 with its marks clear. -/
def RmsEngine.openSegment (r : RmsEngine) : RmsEngine :=
  { r with segmentSums := noSums, segmentClipped := noMarks, segment := some ⟨0, false, false⟩ }

/-- The first boundary after a restart opens the first segment (R40). -/
def RmsEngine.openFirst (r : RmsEngine) : RmsEngine :=
  match r.segment with
  | none => r.openSegment
  | some _ => r

/-- The segment RMS of a channel (R40). -/
def RmsEngine.segmentRms (r : RmsEngine) (g : OpenSegment) (c : Channel) : Nat :=
  exactRoot (r.segmentSums.get c) g.count

/-- The delivery of a segment end (R40); with no segment open there is none. -/
def RmsEngine.delivery (r : RmsEngine) (present : PerChannel Bool) (time : DeviceTime) (freq : Option Nat) :
    Option SegmentDelivery :=
  r.segment.map (fun g =>
    { time := time
      rms := PerChannel.of (fun c =>
        if present.get c then some ⟨r.segmentRms g c, r.segmentClipped.get c⟩ else none)
      patched := g.patched
      clipped := r.segmentClipped.toList.any id
      held := g.held
      freq := freq })

/-- The RMS Engine at a boundary with frame position k: the half cycle is closed, the new one opened, the closed one
added to an open segment and kept as the previous one, and the latest refreshed values replaced where there was a
previous half cycle (R35, R36, R40). -/
def RmsEngine.boundary (r : RmsEngine) (k : Nat) (held : Bool) (present : PerPhase Bool) : RmsEngine :=
  let h := r.closedHalf k held
  let r1 := (r.openHalf k).addToSegment h
  { r1 with previous := some h,
            refreshed := match r.previous with
              | none => r.refreshed
              | some a => refreshedValues a h present }

/-- The restart values (R33). -/
def RmsEngine.restart (_ : RmsEngine) : RmsEngine := RmsEngine.powerOn

/-! ## Rescaling for a pending pair (R24) -/

/-- The late list with the entries from the boundary frame on scaled with the pending pairs. -/
def rescaleLate (c : Conditioner) (late : List LateEntry) (kept : List KeptFrame) (k : Nat) : List LateEntry :=
  late.take (k - Config.acceptFrom) ++
    ((late.drop (k - Config.acceptFrom)).zip (kept.drop (k - Config.acceptFrom))).map
      (fun x => (c.applyPairs.record x.2.content x.1.substituted).lateEntry)

end Sys2Proof.Machine
end

