-- ==== Sys2Proof/Machine/Boundary.lean ====
section
/-! DEFINITION. Machine/Boundary.lean: the data path (R8, R9) and the handing on of a boundary (R26): what every block
does at a boundary's deciding frame, in the order of assumption 6. -/

namespace Sys2Proof.Machine

/-- The phase channels present. -/
def Conditioner.phasesPresent (c : Conditioner) : PerPhase Bool := PerPhase.of (fun p => c.present p.channel)

/-- The device time that the frame at a position of 98 or beyond had when it was taken (R23): the time of a segment
end, in the old count where a SET TIME came after the frame (R140). -/
def Conditioner.timeAt (c : Conditioner) (position : Nat) : DeviceTime :=
  ((c.kept.map (·.time))[position - Config.acceptFrom]?).getD ⟨0, 0⟩

/-- At a boundary pending pairs are applied, and the late frames from the boundary frame on are scaled again with them
(R24). -/
def State.pairsAtBoundary (s : State) (k : Nat) : State :=
  (s.withRe (if s.cc.pairPending then { s.re with late := rescaleLate s.cc s.re.late s.cc.kept k } else s.re)).withCc
    { s.cc.applyPairs with kept := [] }

/-- What the RMS Engine delivers with a boundary (R26, R36, R40): the refreshed values when there was a previous half
cycle, and the segment at a segment end. -/
structure Delivery where
  refreshed : Option (PerPhase (Option Refreshed))
  segment : Option SegmentDelivery
deriving DecidableEq, Repr

/-- The delivery of a boundary whose frame has a device time. -/
def State.deliver (s : State) (d : Decision) (time : DeviceTime) : Delivery :=
  let re := s.re.boundary d.frame (s.ct.heldBy d.kind) s.cc.phasesPresent
  { refreshed := if s.re.previous.isSome then some re.refreshed else none
    segment := if s.ct.endsSegment then re.delivery s.cc.channelSet time (s.ct.segmentFreq d) else none }

/-- The RMS Engine at a boundary: half cycle closed; at a segment end the next segment opened, and at the first
boundary the first one (R35, R40). -/
def State.rmsBoundary (s : State) (d : Decision) : State :=
  let re := s.re.boundary d.frame (s.ct.heldBy d.kind) s.cc.phasesPresent
  s.withRe (if s.ct.endsSegment then re.openSegment else re.openFirst)

/-- The pending switch takes effect at this segment end: there is one, and no SUPPLY event is open (R58). -/
def State.switches (s : State) : Bool := s.ps.switchTo.isSome && !s.et.supplyOpen

/-- The Profile Store with a set made active and its levels derived (R59, steps 1, 2 and 5). -/
def ProfileStore.activate (p : ProfileStore) (n : SetName) : ProfileStore :=
  { p with active := n, switchTo := none, levels := setLevels (p.get n), neLevel := setNeLevel (p.get n) }

/-- The detectors outside a mask are set to NORMAL (R59, step 3). -/
def maskDetectors (mask : PerPhase Bool) (ds : PerPhase Detector) : PerPhase Detector :=
  PerPhase.of (fun p => if mask.get p then ds.get p else .normal)

/-- The pending switch takes effect (R59); the mark MIXED_PROFILE goes with the segment to its interval. -/
def State.takeSwitch (s : State) : State :=
  match s.ps.switchTo with
  | none => s
  | some n =>
    let s1 := s.withPs (s.ps.activate n)
    (s1.withEt { s1.et with detectors := maskDetectors s1.ps.activeSet.mask s1.et.detectors }).raise .profileSwitched

/-- The first refreshed values after a restart make measurement RUNNING (R14). -/
def State.firstRefreshed (s : State) (delivered : Bool) : State :=
  if delivered && s.cc.measurement == .starting then s.withCc { s.cc with measurement := .running } else s

/-- The Cycle Tracker at a boundary, its new reference chosen; an entry to HOLD raises TRACKER_HOLD (R18, R27). -/
def State.trackerBoundary (s : State) (d : Decision) : State :=
  let reference := s.chooseReference
  State.raiseIf (s.withCt (s.ct.boundary d reference)) .trackerHold (s.ct.entersHold d.kind reference)

/-- The Event Tracker at a boundary: it acts on refreshed values alone (R64). -/
def State.eventsAtBoundary (s : State) (r : Option (PerPhase (Option Refreshed))) (start : DeviceTime) (lag : Nat) :
    State :=
  match r with
  | none => s
  | some v => s.eventBoundary v start lag

/-- The Interval Unit at a boundary: the segment event mark (R135), a delivered segment (R133), and the close of a
closing interval (R137). `before` says whether a SUPPLY event was open before the Event Tracker acted. -/
def State.intervalBoundary (s : State) (before : Bool) (seg : Option SegmentDelivery) (mixed : Bool) : State :=
  let found := before || s.et.supplyOpen
  match seg with
  | none => State.closeClosing (s.withIu { s.iu with eventMark := s.iu.eventMark || found })
  | some d =>
    let s1 := s.assignSegment d (s.iu.eventMark || found) mixed
    State.closeClosing (s1.withIu { s1.iu with eventMark := found })

/-- Note which rows of the table a boundary is. -/
def State.noteBoundary (s : State) (d : Decision) (segment : Bool) : State :=
  let s1 := if d.kind = .synthetic then s.note .forcedBoundary else s
  if segment then s1.note .segmentEnd else s1

/-- A boundary is handed on at its deciding frame (R23, R26). -/
def State.handOn (s : State) (d : Decision) : State :=
  let time := s.cc.timeAt d.frame
  let start := s.ct.timeAt d.frame
  let s1 := s.pairsAtBoundary d.frame
  let v := s1.deliver d time
  let s2 := State.noteBoundary (s1.rmsBoundary d) d s1.ct.endsSegment
  let mixed := s1.ct.endsSegment && s2.switches
  let s3 := if mixed then s2.takeSwitch else s2
  let s4 := State.trackerBoundary (s3.firstRefreshed v.refreshed.isSome) d
  let s5 := s4.captureBoundary d.lag
  let s6 := s5.eventsAtBoundary v.refreshed start d.lag
  s6.intervalBoundary s5.et.supplyOpen v.segment mixed

/-! ## The data path (R8, R9) -/

/-- Keep a raw frame at position 98 or beyond (R24). -/
def Conditioner.keep (c : Conditioner) (position : Nat) (f : FrameContent) (time : DeviceTime) : Conditioner :=
  if Config.acceptFrom ≤ position then { c with kept := c.kept ++ [⟨f, time⟩] } else c

/-- The half-width of the hysteresis band: from the reference's Unom in the active set (R19). -/
def State.bandOf (s : State) : Nat :=
  match s.ct.reference with
  | none => 0
  | some p => bandHalf (s.ps.unoms.get p)

/-- The reference's sample of a frame record. -/
def Tracker.sample (t : Tracker) (r : FrameRecord) : Option Int :=
  match t.reference with
  | none => none
  | some p => (r.values.get p.channel).map (·.value)

/-- The Cycle Tracker takes a frame record: the position moves on, or a boundary is handed on. -/
def State.trackFrame (s : State) (r : FrameRecord) : State :=
  let e := s.ct.frame s.bandOf (s.ct.sample r) s.ps.nominalHalf
  match e.2 with
  | none => s.withCt { e.1 with position := e.1.position + 1 }
  | some d => State.handOn (s.withCt e.1) d

/-- A frame with DATA reaches the data path at the present device time (R8): while STARTING or RUNNING it is scaled and
its record goes to the ring, a filling capture, the RMS Engine and the Cycle Tracker. -/
def State.dataFrame (s : State) (f : FrameContent) (substituted : Bool) : State :=
  if s.cc.measurement.measuring then
    let r := s.cc.record f substituted
    let s1 := s.withCe (s.ce.ringEntry r.samples s.tb.now)
    let s2 := s1.captureEntry r.samples s1.tb.now
    let s3 := s2.withRe (s2.re.take s2.ct.position r)
    let s4 := s3.withCc (s3.cc.keep s3.ct.position f s3.tb.now)
    State.trackFrame (s4.withCt (s4.ct.stamp s4.tb.now)) r
  else s

end Sys2Proof.Machine
end

