-- ==== Sys2Proof/Machine/Measurement.lean ====
section
/-! DEFINITION. Machine/Measurement.lean: the moves of the measurement state (R11 to R15). -/

namespace Sys2Proof.Machine

/-- Pending pairs are applied and the raw frames kept for them dropped, when measurement leaves STARTING or RUNNING
(R6). -/
def State.applyPairs (s : State) : State := s.withCc { s.cc.applyPairs with kept := [] }

/-- Set the measurement state. -/
def State.setMeasurement (s : State) (m : MeasurementState) : State := s.withCc { s.cc with measurement := m }

/-- The measurement restart: STARTING (R13). -/
def State.restart (s : State) : State :=
  let s1 := s.withRe s.re.restart
  let s2 := s1.withCt (s1.ct.restart s1.chooseReference)
  let s3 := s2.withCe s2.ce.emptyRing
  let s4 := s3.withCc { s3.cc with measurement := .starting, kept := [] }
  State.markAbsent (s4.withIu { s4.iu with eventMark := false })

/-- The trigger-ready flag is cleared when measurement leaves RUNNING (R109). -/
def State.notReady (s : State) : State := s.withCe { s.ce with ready := false }

/-- The lane has left ALIGNED: STARTING or RUNNING becomes SUSPENDED (R12). -/
def State.suspend (s : State) : State :=
  if s.cc.measurement.measuring then
    let s1 := State.notReady (s.applyPairs.stopFilling true true)
    let s2 := s1.setMeasurement .suspended
    s2.intervalLeave.markAbsent
  else s

/-- The lane has become ALIGNED: SUSPENDED becomes STARTING (R12). -/
def State.realign (s : State) : State :=
  if s.cc.measurement = .suspended then s.restart else s

/-- Measurement begins from STOPPED: STARTING where the lane is ALIGNED, else SUSPENDED, with a GAP where it is LOST
(R11, R80). -/
def State.startMeasurement (s : State) : State :=
  match s.fl.lane with
  | .aligned => s.restart
  | .lost => State.openGap (s.setMeasurement .suspended)
  | .hunt => s.setMeasurement .suspended
  | .check => s.setMeasurement .suspended

/-- A capture that STOP left FILLING after the cut settles (R122). -/
def State.settleStopped (s : State) : State :=
  match s.ce.filling with
  | none => s
  | some c =>
    State.raise (s.withCe (s.ce.update c.ident (fun x => { x with state := .settled }))) .captureSettled

/-- The open interval at a STOP: the measuring states are left (R135, R137). -/
def State.stopInterval (s : State) (measuring : Bool) : State := if measuring then s.intervalLeave else s

/-- Measurement ends (R15): the Capture Engine acts first, then the Event Tracker (R122). -/
def State.stopMeasurement (s : State) : State :=
  match s.cc.measurement with
  | .stopped => s
  | m =>
    let s1 := (s.stopFilling true false).stopEvents.settleStopped
    let s2 := State.notReady (s1.applyPairs.setMeasurement .stopped)
    s2.stopInterval m.measuring

end Sys2Proof.Machine
end

