-- ==== Sys2Proof/Machine/Encode.lean ====
section
/-! DEFINITION. Machine/Encode.lean: the words of report messages (R180, R181): one word per field in the order its
description lists the fields, a presence word second where the kind has optional fields. Lists of numbers, one per
word. -/

namespace Sys2Proof.Machine

/-! ## Fields -/

/-- The presence word: bit n for the optional field in place n + 1 (R180). -/
def presence (marks : List Bool) : Nat := (marks.zipIdx.map (fun x => bitNat x.1 x.2)).sum

/-- The words of an optional field. -/
def optional {α : Type} (x : Option α) (g : α → List Nat) : List Nat :=
  match x with
  | none => []
  | some v => g v

/-- Seconds and ticks (R180). -/
def DeviceTime.words (t : DeviceTime) : List Nat := [t.sec, t.tick]

/-- An extreme: its value and its channel (R180). -/
def Extreme.words (e : Extreme) : List Nat := [e.value, e.phase.code]

/-- A signed value in bits 23 to 0, two's complement (R179, R180). -/
def signedWord (x : Int) : Nat := (BitVec.ofInt 24 x).toNat

/-- The first word of a report message (R180). -/
def firstWord (kind length specific : Nat) : Nat := kind * 268435456 + length * 65536 + specific

/-- A whole report message: its first word, then its other words. -/
def message (kind specific : Nat) (rest : List Nat) : List Word :=
  (firstWord kind (rest.length + 1) specific :: rest).map word

/-! ## Records -/

/-- Clear 0, set 1. -/
def openClosed (closed : Bool) : Nat := flagNat closed

/-- An event record: presence word, then the fields of R96 in order. -/
def EventRecord.words (r : EventRecord) : List Nat :=
  [presence [r.duration.isSome, r.supplyKind.isSome, r.interruption.isSome, r.involved.isSome, r.dip.isSome,
      r.swell.isSome, r.classCell.isSome, r.swellCell.isSome, r.capture.isSome, r.times.isSome],
    r.ident, r.kind.code, openClosed r.closed] ++ r.start.words ++
  optional r.duration DeviceTime.words ++ optional r.supplyKind (fun k => [k.code]) ++
  optional r.interruption DeviceTime.words ++ optional r.involved (fun v => [phaseSetNat v]) ++
  optional r.dip Extreme.words ++ optional r.swell Extreme.words ++
  optional r.classCell (fun c => [c.1, c.2]) ++ optional r.swellCell (fun c => [c]) ++
  optional r.capture (fun c => [c]) ++ [r.flags.toNat] ++
  optional r.times (fun t => t.1.words ++ t.2.words)

/-- An interval record: presence word, then the fields of R138 in order. -/
def IntervalRecord.words (r : IntervalRecord) : List Nat :=
  [presence (r.rms.toList.map Option.isSome ++ r.extremes.toList.map Option.isSome ++ [r.meanFreq.isSome]), r.index] ++
  r.start.words ++ r.span.words ++ [r.length] ++
  (r.rms.toList.map (fun x => optional x (fun v => [v]))).flatten ++
  (r.extremes.toList.map (fun x => optional x (fun v => [v.1, v.2]))).flatten ++
  r.counts.toList ++ r.category.toList.map Category.code ++ optional r.meanFreq (fun v => [v]) ++
  [r.freqCount, r.flags.toNat, r.patched, r.clipped, r.breaks, r.profile.code]

/-- A summary's fields of R144: the counts and the verdict of each phase channel in turn. -/
def Summary.words (m : Summary) : List Nat :=
  [m.first, m.last, m.period, m.allowance, m.coverage] ++
  (phases.map (fun p => (m.counts.get p).toList ++ [(m.verdicts.get p).code])).flatten

/-! ## Channel Table (R3, R7) -/

/-- One entry's presence bit and fields; the pending gain and offset are one optional part. -/
def ChannelEntry.words (e : ChannelEntry) : List Nat :=
  [e.role.code, e.gain, signedWord e.offset, e.annotation.code, e.peak] ++
  optional e.awaiting (fun p => [p.gain, signedWord p.offset])

/-- The response of one slot. -/
def slotWords (e : ChannelEntry) : List Nat := presence [e.awaiting.isSome] :: e.words

/-- The response of the whole table, in slot order. -/
def tableWords (t : Vector ChannelEntry 8) : List Nat :=
  presence (t.toList.map (fun e => e.awaiting.isSome)) :: (t.toList.map ChannelEntry.words).flatten

/-! ## Profile Store (R54 to R57) -/

/-- The per-channel fields of a phase entry, in the order of SET PROFILE. -/
def PhaseThresholds.words (x : PhaseThresholds) : List Nat :=
  [x.unom, x.intStart, x.intEnd, x.dipStart, x.dipEnd, x.swellEnd, x.swellStart]

/-- The set-wide fields, in the order of SET PROFILE. -/
def ThresholdSet.wideWords (t : ThresholdSet) : List Nat :=
  [t.nominal.hertz, phaseSetNat t.mask, t.neLimit, t.bandLow, t.bandHigh]

/-- The eight levels of a phase channel, in the order of R44. -/
def Levels.words (v : Levels) : List Nat :=
  [v.dipStart, v.dipEnd, v.intStart, v.intEnd, v.swellStart, v.swellEnd, v.bandLow, v.bandHigh]

/-- The response of SET PROFILE (R54): for ALL the per-channel fields go channel by channel (the model's order,
assumption 17). -/
def ProfileStore.setWords (p : ProfileStore) (ps : List Phase) : List Nat :=
  [presence [p.switchTo.isSome], p.write.code, p.active.code] ++ optional p.switchTo (fun n => [n.code]) ++
  (p.get p.write).wideWords ++ (ps.map (fun x => ((p.get p.write).phase.get x).words)).flatten

/-- The response of GET PROFILE (R56): with the levels when WRITE SET names the active set. For ALL the
per-channel fields go channel by channel, and so do the levels after them (the model's order, assumption 17). -/
def ProfileStore.getWords (p : ProfileStore) (ps : List Phase) : List Nat :=
  [presence [p.switchTo.isSome, decide (p.write = p.active)], p.write.code, p.active.code] ++
  optional p.switchTo (fun n => [n.code]) ++
  (p.get p.write).wideWords ++ (ps.map (fun x => ((p.get p.write).phase.get x).words)).flatten ++
  (if p.write = p.active then (ps.map (fun x => (p.levels.get x).words)).flatten ++ [p.neLevel] else [])

/-- The response of SELECT WRITE SET and SWITCH PROFILE (R55, R57): WRITE SET, ACTIVE SET, then the pending switch (for
SWITCH PROFILE the model's order, assumption 17). -/
def ProfileStore.pointerWords (p : ProfileStore) : List Nat :=
  [presence [p.switchTo.isSome], p.write.code, p.active.code] ++ optional p.switchTo (fun n => [n.code])

/-! ## Class Matrix (R91, R93) -/

/-- The ten bounds. -/
def ClassBounds.words (b : ClassBounds) : List Nat := [b.b1, b.b2, b.b3, b.b4, b.s1, b.s2, b.d1, b.d2, b.d3, b.d4]

/-- The response of SET CLASSES: the bounds, and the code and action of each cell named (R91). R91 gives the cells no
order and the answer no count: they go in the order in which the message names them, without a count word (DESIGN
CHOICE, assumption 17). -/
def ClassMatrix.setWords (m : ClassMatrix) (named : List Nat) : List Nat :=
  m.bounds.words ++ (named.map (fun n => [(m.cell n).code, (m.cell n).action.code])).flatten

/-- The response of GET CLASSES: bounds, the cells of the part, the retention lock. -/
def ClassMatrix.getWords (m : ClassMatrix) (part : List Nat) (locked : Bool) : List Nat :=
  m.bounds.words ++
  (part.map (fun n => [n, (m.cell n).code, (m.cell n).action.code, (m.cell n).count, (m.cell n).lost])).flatten ++
  [flagNat locked]

/-! ## Captures (R113, R126, R127) -/

/-- The eight capture settings. -/
def CaptureSettings.words (c : CaptureSettings) : List Nat :=
  [c.pre, c.full, c.thin, c.factor, c.post, c.manual, c.maxBlocks, c.mode.code]

/-- A block's header (R111). -/
def CaptureBlock.header (b : CaptureBlock) : List Nat :=
  [b.kind.code, b.spacing] ++ b.first.words ++ [b.entries.length]

/-- A capture's flags: TRUNCATED bit 0, JOINED bit 1 (R181). -/
def Capture.flagWord (c : Capture) : Nat := bitNat c.truncated 0 + bitNat c.joinedFlag 1

/-- A directory entry of LIST CAPTURES, with its blocks (R126). -/
def CaptureEngine.entryWords (c : CaptureEngine) (x : Capture) : List Nat :=
  [x.ident, x.origin.code] ++ x.joined ++ [x.state.code, x.decision.code] ++ x.start.words ++
  [channelSetNat x.channels, x.preHeld, c.entries x, x.flagWord] ++
  (x.blocks.zipIdx.map (fun b => b.2 :: (c.block b.1).header)).flatten

/-- The response of LIST CAPTURES. -/
def CaptureEngine.listWords (c : CaptureEngine) : List Nat :=
  c.free.length :: (c.directory.map c.entryWords).flatten

/-- A capture data message: ident, block header, channel set, then one word per stored sample (R180). -/
def CaptureEngine.blockWords (c : CaptureEngine) (x : Capture) (position : Nat) : List Nat :=
  let b := c.block (x.blocks.getD position 0)
  [x.ident] ++ b.header ++ [channelSetNat x.channels] ++ (b.entries.map (fun e => e.map signedWord)).flatten

/-! ## Time and status (R173, R185) -/

/-- The data of GET TIME. -/
def Timebase.words (t : Timebase) : List Nat :=
  [presence [t.lastLoss.isSome]] ++ t.now.words ++ [t.source.code, flagNat t.unset] ++
  optional t.lastLoss DeviceTime.words

/-- The values of GET STATUS. -/
def State.statusWords (s : State) : List Nat :=
  [presence [s.tb.lastWake.isSome, s.ps.switchTo.isSome], s.cc.measurement.code, s.ct.state.code, s.fl.lane.code,
    s.tb.source.code, s.tb.power.code] ++
  optional s.tb.lastWake (fun w => [w.code]) ++ optional s.ps.switchTo (fun n => [n.code]) ++
  [flagNat s.er.locked, s.er.records.length, s.ce.free.length, flagNat s.ce.ready, s.nu.requests.toNat,
    s.nu.enables.toNat]

/-! ## End messages of streams (R104, R147, R148) -/

/-- The end message of READ EVENTS: the number sent, and the last ident when the stream ended at its count. -/
def eventsEndWords (sent : Nat) (last : Option Nat) : List Nat :=
  [presence [last.isSome], sent] ++ optional last (fun n => [n])

/-- The end message of READ INTERVALS: the number sent, the last index sent, the oldest index held (R147). R147 names the
oldest index without a case for an empty log: it is left out then, under a presence bit of its own (DESIGN CHOICE,
assumption 35). -/
def intervalsEndWords (sent : Nat) (last oldest : Option Nat) : List Nat :=
  [presence [last.isSome, oldest.isSome], sent] ++ optional last (fun n => [n]) ++ optional oldest (fun n => [n])

/-- The end message of READ SUMMARIES: the running period. -/
def IntervalUnit.endWords (u : IntervalUnit) : List Nat :=
  [presence [u.firstIndex.isSome]] ++ optional u.firstIndex (fun n => [n]) ++ [u.periodClosed] ++
  (phases.map (fun p => (u.counters.get p).toList)).flatten ++ [u.period, u.allowance, u.coverage]

/-! ## Whole messages -/

/-- The kind-specific bits of a response's first word (R180). -/
def Response.specific (r : Response) : Nat := r.form.code * 16384 + (r.code % 128) * 128 + r.status.code

/-- A response as it is granted, GET TIME taking its data there (R173). -/
def Response.sentWords (r : Response) (tb : Timebase) : List Word :=
  match r.body with
  | .words ws => word (firstWord 1 (ws.length + 1) r.specific) :: ws
  | .timeAtGrant => message 1 r.specific tb.words

/-- A notice: one word with the causes due (R180, R191). -/
def NoticeUnit.words (nu : NoticeUnit) : List Word := message 2 nu.due.toNat []

/-- An event push: the record, or the ident alone with the record-absent bit (R189). R180 puts a presence word second in
a kind with optional fields, which the record's fields are; with no record the message is two words, without a presence
word (DESIGN CHOICE, assumption 40). -/
def EventPush.words (p : EventPush) (record : Option EventRecord) : List Word :=
  let phase := match p.phase with
    | .opened => 0
    | .closed => 1
  match record with
  | some r => message 3 phase r.words
  | none => message 3 (phase + 2) [p.ident]

/-- An interval push: the record, or the index alone with the record-absent bit (R189), without a presence word then
(DESIGN CHOICE, assumption 40). -/
def intervalPushWords (index : Nat) (record : Option IntervalRecord) : List Word :=
  match record with
  | some r => message 4 0 r.words
  | none => message 4 2 [index]

end Sys2Proof.Machine
end

