-- ==== Sys2Proof/Machine/Lane.lean ====
section
/-! DEFINITION. Machine/Lane.lean: the moves of the inbound lane state and what each tells other blocks (R155, R156).
The orders are those of assumption 5. -/

namespace Sys2Proof.Machine

/-- What is kept of an inbound frame (R150). -/
def frameContent (f : InboundFrame) : FrameContent := { samples := f.samples, overload := f.overload }

/-- The words being grouped are dropped when CHECK or ALIGNED gives way to the search (R153). -/
def FrameLink.toSearch (f : FrameLink) (lane : LaneState) : FrameLink :=
  { f with lane := lane, checkCount := 0, inboundWords := [] }

/-- Entry to LOST: LINK_CHANGED, the last loss time, and the loss declaration (R156, R169, R77). -/
def State.enterLost (s : State) (fl : FrameLink) : State :=
  let s1 := s.withFl { fl with breakDue := false }
  let s2 := State.raise (s1.withTb { s1.tb with lastLoss := some s1.tb.now }) .linkChanged
  s2.lossEvents

/-- HUNT gives way to LOST: the search and its candidate go on (R153). -/
def State.huntToLost (s : State) : State := s.enterLost { s.fl with lane := .lost }

/-- CHECK gives way to HUNT, or to LOST when timeout passed is set (R155). -/
def State.leaveCheck (s : State) : State :=
  if s.fl.timeoutPassed then s.enterLost (s.fl.toSearch .lost)
  else State.raise (s.withFl (s.fl.toSearch .hunt)) .linkChanged

/-- ALIGNED gives way to HUNT: measurement is suspended, the source becomes LOCAL, and device time advances for the
silence (R155, R156, R168). -/
def State.loseAlignment (s : State) : State :=
  let s1 := State.raise (s.withFl { s.fl.toSearch .hunt with breakDue := true }) .linkChanged
  State.advanceBy Config.silenceLimit s1.suspend.sourceLocal

/-- CHECK is entered with a good frame from HUNT or LOST (R155). LINK_CHANGED is raised before the frame is forwarded, so
that its ATTENTION flag shows it (R161): the model's order (assumption 5). -/
def State.enterCheck (s : State) (f : InboundFrame) : State :=
  State.raise
    (s.withFl { s.fl with lane := .check, lastSeq := some f.seq, lastFrame := some (frameContent f), checkCount := 1,
                          silence := 0, inboundWords := [] })
    .linkChanged

/-- Timeout passed becomes set: HUNT and CHECK give way to LOST (R154). -/
def State.passTimeout (s : State) : State :=
  let s1 := s.withFl { s.fl with timeoutPassed := true }
  match s1.fl.lane with
  | .hunt => s1.huntToLost
  | .check => s1.leaveCheck
  | .aligned => s1
  | .lost => s1

/-- The ticks since the reference are compared with the link timeout (R154). -/
def FrameLink.timeoutDue (f : FrameLink) : Bool := !f.timeoutPassed && decide (f.linkTimeout ≤ f.sinceReference)

/-- The comparison of a SET LINK: at or above the timeout, timeout passed is set, again where it is set, and a lane in
HUNT or CHECK goes to LOST (R154). -/
def State.testTimeout (s : State) : State := if s.fl.linkTimeout ≤ s.fl.sinceReference then s.passTimeout else s

/-- A break is counted in the open interval where one is due (R136, R156). -/
def State.countBreak (s : State) : State :=
  if s.fl.breakDue then
    State.withFl
      (s.withIu { s.iu with current :=
        { s.iu.current with breaks := saturatingSucc Config.maxCount s.iu.current.breaks } })
      { s.fl with breakDue := false }
  else s

/-- CHECK gives way to ALIGNED: the reference moves, the source becomes FRAME, a break is counted, a suspended
measurement restarts (R155, R156). -/
def State.becomeAligned (s : State) : State :=
  let s1 := s.withFl { s.fl with lane := .aligned, checkCount := 4, sinceReference := 0, timeoutPassed := false }
  (s1.raise .linkChanged).sourceFrame.countBreak.realign

end Sys2Proof.Machine
end

