-- ==== Sys2Proof/Machine/Command.lean ====
section
/-! DEFINITION. Machine/Command.lean: the Command Unit (R182, R183): placing responses, streams, and the execution of
each command. -/

namespace Sys2Proof.Machine

/-! ## Placing responses (R183) -/

/-- The response source has a place. -/
def ReportArbiter.hasPlace (r : ReportArbiter) : Bool := decide (r.responses.length < Config.responseCapacity)

/-- A message at the end of the response source. -/
def ReportArbiter.place (r : ReportArbiter) (x : Response) : ReportArbiter := { r with responses := r.responses ++ [x] }

/-- The Command Unit once a response of its execution is placed: STREAMING while a stream is in progress, else IDLE
(R183). -/
def CommandUnit.placed (c : CommandUnit) : CommandUnit :=
  { c with state := if c.stream.isSome then .streaming else .idle, work := .idle, waiting := none }

/-- The Command Unit while a response waits for a place (R183). -/
def CommandUnit.held (c : CommandUnit) (x : Response) : CommandUnit :=
  { c with state := if c.state = .streaming then .streaming else .executing, work := .idle, waiting := some x }

/-- A response of an executed message, a stream item or an end message is placed, or waits for a place (R183). -/
def State.placeOrWait (s : State) (x : Response) : State :=
  if s.ra.hasPlace then (s.withRa (s.ra.place x)).withCu s.cu.placed
  else s.withCu (s.cu.held x)

/-- A BUSY answer, or a MALFORMED answer made at a header or a bad-frame report, is placed or dropped (R183). -/
def State.placeOrDrop (s : State) (x : Response) : State :=
  if s.ra.hasPlace then s.withRa (s.ra.place x) else s

/-- The single response of a command, with its words. -/
def answerOf (code : Nat) (status : Status) (ws : List Nat) : Response :=
  { form := .single, code := code, status := status, body := .words (ws.map word) }

/-- Answer an executed command. -/
def State.answer (s : State) (code : Nat) (status : Status) (ws : List Nat) : State :=
  s.placeOrWait (answerOf code status ws)

/-- Answer DONE. -/
def State.done (s : State) (code : Nat) (ws : List Nat) : State := s.answer code .done ws

/-- Refuse a command: nothing changes but the answer. -/
def State.refuse (s : State) (code : Nat) (status : Status) : State := s.answer code status []

/-! ## Streams (R104, R147, R148) -/

/-- Place a stream item. -/
def State.streamItem (s : State) (code : Nat) (ws : List Nat) (next : ReadStream) : State :=
  State.placeOrWait (s.withCu { s.cu with stream := some next })
    { form := .streamItem, code := code, status := .done, body := .words (ws.map word) }

/-- Place the end message. -/
def State.streamEnd (s : State) (code : Nat) (ws : List Nat) : State :=
  s.placeOrWait { form := .endMessage, code := code, status := .done, body := .words (ws.map word) }

/-- The next choice of READ EVENTS (R104). -/
def State.nextEvent (s : State) (next left : Nat) (filter : EventFilter) (sent : Nat) (last : Option Nat) : State :=
  match left with
  | 0 => s.streamEnd 13 (eventsEndWords sent last)
  | n + 1 =>
    match s.er.choose next filter with
    | none => s.streamEnd 13 (eventsEndWords sent none)
    | some r => s.streamItem 13 r.words (.events (r.ident + 1) n filter (sent + 1) (some r.ident))

/-- The next choice of READ INTERVALS (R147). -/
def State.nextInterval (s : State) (next left sent : Nat) (last : Option Nat) : State :=
  let finish := s.streamEnd 21 (intervalsEndWords sent last (s.iu.log.head?.map (·.index)))
  match left with
  | 0 => finish
  | n + 1 =>
    match s.iu.log.find? (fun r => decide (next ≤ r.index)) with
    | none => finish
    | some r => s.streamItem 21 r.words (.intervals (r.index + 1) n (sent + 1) (some r.index))

/-- The next choice of READ SUMMARIES, summaries numbered from the first ever made (R148). -/
def State.nextSummary (s : State) (next : Nat) : State :=
  let serial := max next s.iu.summariesGone
  match s.iu.summaries[serial - s.iu.summariesGone]? with
  | none => s.streamEnd 23 s.iu.endWords
  | some m => s.streamItem 23 m.words (.summaries (serial + 1))

/-- The next choice of the stream in progress: an item or the end message. -/
def State.streamNext (s : State) : State :=
  match s.cu.stream with
  | none => s
  | some (.events next left filter sent last) => s.nextEvent next left filter sent last
  | some (.intervals next left sent last) => s.nextInterval next left sent last
  | some (.summaries next) => s.nextSummary next

/-- A stream begins with its first choice. -/
def State.beginStream (s : State) (r : ReadStream) : State :=
  State.streamNext (s.withCu { s.cu with stream := some r })

/-! ## Messages reaching the Command Unit (R182) -/

/-- A message leaves assembly for execution. -/
def State.beginExecution (s : State) : State := s.withCu { s.cu with state := .executing, buffer := [] }

/-- A header that finds the Command Unit busy is answered BUSY with its own command code. -/
def State.busy (s : State) (code : Nat) : State := s.placeOrDrop (answerOf code .busy [])

/-- The command code of the message under assembly. -/
def CommandUnit.code (c : CommandUnit) : Nat := (headerCode (c.buffer.getD 0 0)).toNat

/-- The message under assembly is abandoned and answered MALFORMED. -/
def State.abandon (s : State) : State :=
  State.placeOrDrop (s.withCu { s.cu with state := .idle, buffer := [] }) (answerOf s.cu.code .malformed [])

/-- The second word of a waking return frame is still to be discarded, or not (R177). -/
def State.setReturn (s : State) (p : ReturnPosition) : State := s.withFl { s.fl with returnPosition := p }

/-- A whole message with a command code arrives on the return lane (R182): in standby it only wakes the part (R177);
in IDLE it is executed; under assembly it abandons the message held; otherwise it is answered BUSY. -/
def State.receive (s : State) (code : Nat) (run : State → State) : State :=
  match s.tb.power with
  | .standby => s.wake .returnActivity
  | .run =>
    match s.cu.state with
    | .idle => run s.beginExecution
    | .assembling => run s.abandon.beginExecution
    | .executing => s.busy code
    | .streaming => s.busy code

/-! ## Measurement (R11, R15, R184) -/

/-- The words of a response to START. -/
def State.startWords (s : State) : List Nat := [s.cc.measurement.code, s.ct.cycles]

/-- START (R11, R30): every response carries M, the refusal STATE M alone (assumption 17). -/
def State.doStart (s : State) (cycles : Option (BitVec 24)) : State :=
  match s.cc.measurement with
  | .stopped =>
    if s.cc.hasPhase then
      let s1 := State.startMeasurement (s.withCt { s.ct with cycles := clampedOr 8 16 cycles s.ct.cycles })
      s1.done 1 s1.startWords
    else s.answer 1 .state [s.ct.cycles]
  | .starting => s.done 1 s.startWords
  | .running => s.done 1 s.startWords
  | .suspended => s.done 1 s.startWords

/-- STOP (R15). -/
def State.doStop (s : State) : State := s.stopMeasurement.done 2 []

/-- Every capture is freed, in directory order, and a readout's waiting messages withdrawn (R107, R110, R128). -/
def CaptureEngine.clear (c : CaptureEngine) : CaptureEngine :=
  { c with directory := [], free := c.free ++ (c.directory.map (·.blocks)).flatten, fill := none }

/-- The log, the summaries and the observation counters are emptied; a new period begins, and no interval is closing
(R131). -/
def IntervalUnit.clear (u : IntervalUnit) : IntervalUnit :=
  IntervalUnit.newPeriod { u with log := [], summaries := [], closing := none }

/-- The five clearings of CLEAR RECORDS, in order (R184). -/
def State.clearStores (s : State) : State :=
  let s1 := s.withEr { s.er with records := [] }
  let s2 := s1.withCm s1.cm.clearCounts
  let s3 := (s2.withCe s2.ce.clear).withRa { s2.ra with blockQueue := [] }
  let s4 := s3.withIu s3.iu.clear
  s4.withRa { s4.ra with eventPushes := [], intervalPushes := [] }

/-- CLEAR RECORDS (R184): accepted, the Command Unit stays EXECUTING until CLEAR_RECORDS_COMPLETE. -/
def State.doClearRecords (s : State) : State :=
  if s.cc.measurement ≠ .stopped then s.refuse 3 .state
  else if s.er.locked then s.refuse 3 .locked
  else
    let s1 := s.clearStores
    s1.withCu { s1.cu with state := .executing, work := .clearing }

/-! ## Channels (R3 to R7) -/

/-- The field values of SET CHANNEL are in their lists (R3, test 2). -/
def channelListed (f : ChannelFields) : Bool := listed roleOfCode f.role && listed annotationOfCode f.annotation

/-- Some other slot holds the role (R3, test 4). -/
def Conditioner.duplicate (c : Conditioner) (slot : Fin 8) (r : Role) : Bool :=
  r != .pass && (List.finRange 8).any (fun i => i != slot && c.table[i].role == r)

/-- A gain or offset pair with the fields present, clamped (R5). -/
def GainOffset.write (p : GainOffset) (f : ChannelFields) : GainOffset :=
  { gain := clampedOr 1 1048575 f.gain p.gain
    offset := match f.offset with
      | none => p.offset
      | some v => clampInt (-1048576) 1048575 v.toInt }

/-- Gain and offset of an entry: at once outside measurement, else into the pending pair (R6). -/
def ChannelEntry.writePair (e : ChannelEntry) (measuring : Bool) (f : ChannelFields) : ChannelEntry :=
  if f.gain.isNone && f.offset.isNone then e
  else if measuring then
    { e with awaiting := some ((e.awaiting.getD ⟨e.gain, e.offset⟩).write f) }
  else
    { e with gain := (GainOffset.write ⟨e.gain, e.offset⟩ f).gain,
             offset := (GainOffset.write ⟨e.gain, e.offset⟩ f).offset }

/-- An entry after a SET CHANNEL with these fields (R3, R5, R6). -/
def ChannelEntry.write (e : ChannelEntry) (measuring : Bool) (f : ChannelFields) : ChannelEntry :=
  ChannelEntry.writePair
    { e with
      role := match f.role with
        | none => e.role
        | some v => (roleOfCode v).getD e.role
      annotation := match f.annotation with
        | none => e.annotation
        | some v => (annotationOfCode v).getD e.annotation
      peak := clampedOr 1 255 f.peak e.peak }
    measuring f

/-- Write one slot (R3). -/
def State.writeSlot (s : State) (slot : Fin 8) (f : ChannelFields) : State :=
  s.withCc { s.cc with
    table := s.cc.table.set slot (s.cc.table[slot].write s.cc.measurement.measuring f) }

/-- Write every evaluated slot (R4). -/
def State.writeEvaluated (s : State) (f : ChannelFields) : State :=
  s.withCc { s.cc with
    table := s.cc.table.map (fun e => if e.role = .pass then e else e.write s.cc.measurement.measuring f) }

/-- How many slots hold an evaluated role (R4). -/
def Conditioner.evaluated (c : Conditioner) : Nat := (c.table.toList.filter (fun e => e.role != .pass)).length

/-- SET CHANNEL with a slot selector, after tests 1 and 2 (R3). -/
def State.setSlot (s : State) (slot : Fin 8) (f : ChannelFields) : State :=
  if f.role.isSome && s.cc.measurement != .stopped then s.refuse 4 .state
  else if ((f.role.bind roleOfCode).map (s.cc.duplicate slot)).getD false then s.refuse 4 .invalid
  else
    let s1 := s.writeSlot slot f
    s1.done 4 (slotWords s1.cc.table[slot])

/-- SET CHANNEL (R3, R4). -/
def State.doSetChannel (s : State) (selector : BitVec 16) (f : ChannelFields) : State :=
  if selector = selectorAll then
    if f.role.isSome || !channelListed f then s.refuse 4 .invalid
    else (s.writeEvaluated f).done 4 [s.cc.evaluated]
  else
    match slotOfSelector selector with
    | none => s.refuse 4 .invalid
    | some slot => if channelListed f then s.setSlot slot f else s.refuse 4 .invalid

/-- GET CHANNEL (R7). -/
def State.doGetChannel (s : State) (selector : BitVec 16) : State :=
  if selector = selectorAll then s.done 5 (tableWords s.cc.table)
  else
    match slotOfSelector selector with
    | none => s.refuse 5 .invalid
    | some slot => s.done 5 (slotWords s.cc.table[slot])

/-! ## Profiles (R51 to R57) -/

/-- SET PROFILE (R51 to R54). -/
def State.doSetProfile (s : State) (selector : BitVec 16) (f : ProfileFields) : State :=
  match phasesOfSelector selector with
  | none => s.refuse 6 .invalid
  | some ps =>
    if !listed nominalOfCode f.nominal then s.refuse 6 .invalid
    else if s.ps.write = s.ps.active then s.refuse 6 .state
    else if !((s.ps.get s.ps.write).write f ps).ordered then s.refuse 6 .invalid
    else
      let p := s.ps.put s.ps.write ((s.ps.get s.ps.write).write f ps)
      (s.withPs p).done 6 (p.setWords ps)

/-- GET PROFILE (R56). -/
def State.doGetProfile (s : State) (selector : BitVec 16) : State :=
  match phasesOfSelector selector with
  | none => s.refuse 7 .invalid
  | some ps => s.done 7 (s.ps.getWords ps)

/-- SELECT WRITE SET (R55). -/
def State.doSelectWriteSet (s : State) (selector : BitVec 16) : State :=
  match setOfSelector selector with
  | none => s.refuse 8 .invalid
  | some n =>
    let p := { s.ps with write := n }
    (s.withPs p).done 8 p.pointerWords

/-- SWITCH PROFILE (R57). -/
def State.doSwitchProfile (s : State) (selector : BitVec 16) : State :=
  match setOfSelector selector with
  | none => s.refuse 9 .invalid
  | some n =>
    let p := { s.ps with switchTo := if n = s.ps.active then none else some n }
    (s.withPs p).done 9 p.pointerWords

/-! ## Classes (R91 to R94) -/

/-- A duration bound as it would stand: a wide field already lies in its range (R91). -/
def wideOr (v : Option (BitVec 32)) (old : Nat) : Nat :=
  match v with
  | none => old
  | some x => x.toNat

/-- The bounds as they would stand (R91). -/
def ClassBounds.write (b : ClassBounds) (f : ClassFields) : ClassBounds :=
  { b1 := clampedOr 0 2000 f.b1 b.b1, b2 := clampedOr 0 2000 f.b2 b.b2, b3 := clampedOr 0 2000 f.b3 b.b3,
    b4 := clampedOr 0 2000 f.b4 b.b4, s1 := clampedOr 0 2000 f.s1 b.s1, s2 := clampedOr 0 2000 f.s2 b.s2,
    d1 := wideOr f.d1 b.d1, d2 := wideOr f.d2 b.d2, d3 := wideOr f.d3 b.d3, d4 := wideOr f.d4 b.d4 }

/-- Dip bounds strictly descending, swell and duration bounds strictly ascending (R91, test 4). -/
def ClassBounds.ordered (b : ClassBounds) : Bool :=
  decide (b.b2 < b.b1) && decide (b.b3 < b.b2) && decide (b.b4 < b.b3) && decide (b.s1 < b.s2) &&
  decide (b.d1 < b.d2) && decide (b.d2 < b.d3) && decide (b.d3 < b.d4)

/-- Every cell named lies in 0 to 39 (R91, test 1). -/
def cellsExist (f : ClassFields) : Bool := f.cells.all (fun c => decide (c.cell.toNat < 40))

/-- Every action is in its list (R91, test 2). -/
def actionsListed (f : ClassFields) : Bool := f.cells.all (fun c => listed actionOfCode c.action)

/-- No two entries name one cell (R91, test 3). -/
def noTwice : List Nat → Bool
  | [] => true
  | x :: xs => !xs.contains x && noTwice xs

/-- The numbers of the cells named. -/
def cellNumbers (f : ClassFields) : List Nat := f.cells.map (fun c => c.cell.toNat)

/-- A cell with the class code and action of its entry. -/
def ClassCell.write (c : ClassCell) (e : CellEntry) : ClassCell :=
  { c with code := clampedOr 0 255 e.code c.code, action := (e.action.bind actionOfCode).getD c.action }

/-- Write one cell entry. -/
def ClassMatrix.writeCell (m : ClassMatrix) (e : CellEntry) : ClassMatrix :=
  if h : e.cell.toNat < 40 then { m with cells := m.cells.set e.cell.toNat (m.cells[e.cell.toNat].write e) } else m

/-- The matrix after an accepted write (R91). -/
def ClassMatrix.write (m : ClassMatrix) (f : ClassFields) : ClassMatrix :=
  f.cells.foldl ClassMatrix.writeCell { m with bounds := m.bounds.write f }

/-- SET CLASSES (R91). -/
def State.doSetClasses (s : State) (f : ClassFields) : State :=
  if !(cellsExist f && actionsListed f && noTwice (cellNumbers f) && (s.cm.bounds.write f).ordered) then
    s.refuse 10 .invalid
  else
    let m := s.cm.write f
    (s.withCm m).done 10 (m.setWords (cellNumbers f))

/-- GET CLASSES (R93). -/
def State.doGetClasses (s : State) (selector : BitVec 16) : State :=
  match cellsOfSelector selector with
  | none => s.refuse 11 .invalid
  | some part => s.done 11 (s.cm.getWords part s.er.locked)

/-- CLEAR COUNTS (R94). -/
def State.doClearCounts (s : State) : State :=
  if s.er.locked then s.refuse 12 .locked else (s.withCm s.cm.clearCounts).done 12 []

/-! ## Events (R102 to R104) -/

/-- READ EVENTS (R104). -/
def State.doReadEvents (s : State) (f : ReadEventsFields) : State :=
  if !listed filterOfCode f.filter then s.refuse 13 .invalid
  else
    s.beginStream (.events (max 1 (wideOr f.fromIdent 1)) (clampedOr 1 512 f.count 512)
      ((f.filter.bind filterOfCode).getD .all) 0 none)

/-- A watermark field is written and the watermark evaluated (R101, R103). -/
def State.writeWatermark (s : State) (v : Option (BitVec 24)) : State :=
  match v with
  | none => s
  | some _ => State.testWatermark (s.withEr { s.er with watermark := clampedOr 1 512 v s.er.watermark })

/-- The records after a RELEASE EVENTS. -/
def EventRegister.releaseUpTo (r : EventRegister) (v : Option (BitVec 32)) : EventRegister :=
  match v with
  | none => r
  | some x => r.release x.toNat

/-- RELEASE EVENTS (R103). With both fields the removal comes first, and the watermark is evaluated on the records still
held: the model's order (DESIGN CHOICE, assumption 32). Without an up-to ident, for which R103 gives no words, DONE
carries 0 removed and the number held (DESIGN CHOICE, assumption 38). -/
def State.doReleaseEvents (s : State) (f : ReleaseEventsFields) : State :=
  if f.upTo.isSome && s.er.locked then s.refuse 14 .locked
  else
    let r := s.er.releaseUpTo f.upTo
    let s1 := State.writeWatermark (s.withEr r) f.watermark
    s1.done 14 [s.er.records.length - r.records.length, r.records.length]

/-- RETAIN (R102). -/
def State.doRetain (s : State) : State :=
  (s.withEr { s.er with locked := true }).done 15 [s.er.records.length]

/-! ## Capture (R113, R125 to R129) -/

/-- The settings with the fields present, clamped (R113). -/
def CaptureSettings.write (c : CaptureSettings) (f : CaptureFields) : CaptureSettings :=
  { pre := clampedOr 1 8 f.pre c.pre, full := clampedOr 1 64 f.full c.full, thin := clampedOr 1 1024 f.thin c.thin,
    factor := clampedOr 2 64 f.factor c.factor, post := clampedOr 1 64 f.post c.post,
    manual := clampedOr 1 1024 f.manual c.manual, maxBlocks := clampedOr 1 128 f.maxBlocks c.maxBlocks,
    mode := (f.mode.bind modeOfCode).getD c.mode }

/-- The duty condition T ≥ 2F (R113). -/
def CaptureSettings.duty (c : CaptureSettings) : Bool := decide (2 * c.full ≤ c.thin)

/-- The settings as they are written: F 4 and T 16 where the duty condition fails (R113). -/
def CaptureSettings.checked (c : CaptureSettings) : CaptureSettings :=
  if c.duty then c else { c with full := 4, thin := 16 }

/-- The trigger-ready flag re-tested at a write of W (R109). -/
def CaptureEngine.retest (c : CaptureEngine) (written running : Bool) : CaptureEngine :=
  if written then { c with ready := running && decide (c.settings.pre ≤ c.completeHalves) } else c

/-- SET CAPTURE (R113, R114). -/
def State.doSetCapture (s : State) (f : CaptureFields) : State :=
  if !listed modeOfCode f.mode then s.refuse 16 .invalid
  else
    let c := s.ce.settings.write f
    let s1 := s.withCe (CaptureEngine.retest { s.ce with settings := c.checked } f.pre.isSome
      (s.cc.measurement == .running))
    (s1.raiseIf .spansDefaulted (!c.duty)).done 16 c.checked.words

/-- The words of an accepted TRIGGER: ident, pre-trigger half cycles held, blocks taken (R125). -/
def triggerWords (c : Option Capture) : List Nat :=
  match c with
  | none => []
  | some x => [x.ident, x.preHeld, x.blocks.length]

/-- TRIGGER (R125); a NOT_READY answer carries the order number of the test that refused it. -/
def State.doTrigger (s : State) : State :=
  match s.ce.settings.mode with
  | .auto => s.refuse 17 .state
  | .manual =>
    if !s.ce.ready then s.answer 17 .notReady [2]
    else if s.ce.filling.isSome then s.answer 17 .notReady [3]
    else if !s.ce.canStart then s.answer 17 .notReady [4]
    else
      let s1 := s.startCapture .manual [] s.tb.now
      s1.done 17 (triggerWords s1.ce.directory.getLast?)

/-- LIST CAPTURES (R126). -/
def State.doListCaptures (s : State) : State := s.done 18 s.ce.listWords

/-- The block positions of a readout from k on (R127). -/
def readoutOrder (blocks k : Nat) : List Nat := (List.range blocks).drop k ++ (List.range blocks).take k

/-- Some capture is READING. -/
def CaptureEngine.reading (c : CaptureEngine) : Bool := c.directory.any (fun x => x.state == .reading)

/-- READ CAPTURE of a directory entry (R127, tests 2 to 5). -/
def State.readEntry (s : State) (x : Capture) (k : Nat) : State :=
  if x.state = .filling || s.ce.reading then s.refuse 19 .busy
  else if x.blocks.length ≤ k then s.refuse 19 .invalid
  else
    let s1 := s.withCe (s.ce.update x.ident (fun y => { y with state := .reading }))
    let s2 := s1.withRa { s1.ra with
      blockQueue := s1.ra.blockQueue ++ (readoutOrder x.blocks.length k).map (fun p => ⟨x.ident, p⟩) }
    s2.done 19 [x.ident, x.blocks.length, k]

/-- READ CAPTURE (R127). -/
def State.doReadCapture (s : State) (ident : BitVec 16) (position : Option (BitVec 24)) : State :=
  match s.ce.find ident.toNat with
  | none => s.refuse 19 .notFound
  | some x => s.readEntry x (((position.map BitVec.toNat)).getD 0)

/-- RELEASE CAPTURE (R129). -/
def State.doReleaseCapture (s : State) (ident : BitVec 16) : State :=
  match s.ce.find ident.toNat with
  | none => s.refuse 20 .notFound
  | some x =>
    if x.state ≠ .settled then s.refuse 20 .busy
    else if x.decision = .priority ∧ s.er.locked = true then s.refuse 20 .locked
    else
      let s1 := s.removeCapture x
      s1.done 20 [s1.ce.free.length]

/-! ## Intervals (R145 to R148) -/

/-- READ INTERVALS (R147). -/
def State.doReadIntervals (s : State) (f : ReadIntervalsFields) : State :=
  s.beginStream (.intervals (wideOr f.fromIndex 0) (clampedOr 1 1008 f.count 1008) 0 none)

/-- The interval lengths of R131, longest first. -/
def intervalLengths : List Nat := [3600, 1800, 1200, 900, 720, 600, 360, 300, 240, 180, 120, 60]

/-- A length rounded down to the list; below 60 it becomes 60 (R145). -/
def roundLength (n : Nat) : Nat := (intervalLengths.find? (fun l => decide (l ≤ n))).getD 60

/-- The interval length as it would stand. -/
def lengthOr (v : Option (BitVec 24)) (old : Nat) : Nat :=
  match v with
  | none => old
  | some x => roundLength x.toNat

/-- Some field is present. -/
def someObservation (f : ObservationFields) : Bool :=
  f.length.isSome || f.period.isSome || f.allowance.isSome || f.coverage.isSome

/-- The observation settings with the fields present, clamped (R145). -/
def IntervalUnit.writeSettings (u : IntervalUnit) (f : ObservationFields) : IntervalUnit :=
  { u with length := lengthOr f.length u.length, period := clampedOr 1 4032 f.period u.period,
           allowance := clampedOr 0 1000 f.allowance u.allowance,
           coverage := clampedOr 0 1000 f.coverage u.coverage }

/-- The steps of a SET OBSERVATION with some field present (R146). -/
def State.observe (s : State) (f : ObservationFields) : State :=
  let change := decide (lengthOr f.length s.iu.length ≠ s.iu.length)
  let s1 := s.closeClosing
  let s2 := if change then s1.closeInterval (s1.iu.current.mark .timeStep true) false else s1
  let s3 := s2.withIu (s2.iu.newPeriod.writeSettings f)
  if change then s3.openInterval s3.tb.now else s3

/-- The words of a response to SET OBSERVATION (R145). An E of 4,294,967,296 s or more fits no word: its seconds go out
modulo 2 ^ 32 (DESIGN CHOICE, assumption 34). -/
def IntervalUnit.settingWords (u : IntervalUnit) : List Nat :=
  [u.length, u.period, u.allowance, u.coverage, u.current.index, u.current.endSec, 0]

/-- SET OBSERVATION (R145, R146). -/
def State.doSetObservation (s : State) (f : ObservationFields) : State :=
  let s1 := if someObservation f then s.observe f else s
  s1.done 22 s1.iu.settingWords

/-- READ SUMMARIES (R148). -/
def State.doReadSummaries (s : State) : State := s.beginStream (.summaries s.iu.summariesGone)

/-! ## Time and power (R171, R173, R174, R176) -/

/-- The record of a TIMESTEP event (R100). -/
def State.timestepRecord (s : State) (old new : DeviceTime) : EventRecord :=
  { ident := s.er.ident, kind := .timestep, closed := true, start := new, duration := some ⟨0, 0⟩,
    supplyKind := none, interruption := none, involved := none, dip := none, swell := none, classCell := none,
    swellCell := none, capture := none, flags := EventFlag.when .timeLocal (s.tb.source == .localOsc),
    times := some (old, new) }

/-- A TIMESTEP event: it takes an ident, its record is stored where it can be, its CLOSE push offered (R100). -/
def State.timestep (s : State) (old new : DeviceTime) : State :=
  let r := s.timestepRecord old new
  State.offerEventPush (s.takeIdent.storeRecord r s.er.mayStore) r.ident .closed

/-- Device time is set to a new time (R171, steps 1 to 4); the times of the half cycle's late frames move with it
(R172). -/
def State.stepTime (s : State) (new : DeviceTime) : State :=
  let s1 := s.closeClosing
  let s2 := State.withTb (s1.withCt (s1.ct.recount new)) { s1.tb with now := new, unset := false }
  let s3 := if s.tb.unset then s2 else s2.timestep s.tb.now new
  s3.stepInterval new true

/-- SET TIME (R171). -/
def State.doSetTime (s : State) (f : TimeFields) : State :=
  match f.seconds with
  | none => s.refuse 24 .invalid
  | some sec =>
    let new : DeviceTime := ⟨sec.toNat, clampedOr 0 12799 f.tick 0⟩
    (s.stepTime new).done 24 (s.tb.now.words ++ new.words ++ [flagNat (!s.tb.unset)])

/-- GET TIME: its data are taken at the grant (R173). -/
def State.doGetTime (s : State) : State :=
  s.placeOrWait { form := .single, code := 25, status := .done, body := .timeAtGrant }

/-- SET WAKE (R176). -/
def State.doSetWake (s : State) (f : WakeFields) : State :=
  let t := { s.tb with wakeTimer := clampedOr 0 65535 f.timer s.tb.wakeTimer,
                       inboundWake := (f.inbound.map enableOfCode).getD s.tb.inboundWake }
  (s.withTb t).done 26 [t.wakeTimer, flagNat t.inboundWake]

/-- Entry to standby (R150, R174). -/
def State.enterStandby (s : State) : State :=
  State.withCe
    ((s.withTb { s.tb with power := .standby,
                           countdown := if s.tb.wakeTimer = 0 then none else some s.tb.wakeTimer }).withFl
      s.fl.enterStandby)
    s.ce.emptyRing

/-- STANDBY (R174). -/
def State.doStandby (s : State) : State :=
  match s.fl.lane with
  | .lost => s.enterStandby.done 27 []
  | .hunt => s.refuse 27 .state
  | .check => s.refuse 27 .state
  | .aligned => s.refuse 27 .state

/-! ## Link, reports, notices (R186, R190, R192) -/

/-- A link timeout is written and acts at once (R154). -/
def State.writeTimeout (s : State) (v : Option (BitVec 24)) : State :=
  match v with
  | none => s
  | some _ => State.testTimeout (s.withFl { s.fl with linkTimeout := clampedOr 32 65535 v s.fl.linkTimeout })

/-- SET LINK (R186). -/
def State.doSetLink (s : State) (timeout : Option (BitVec 24)) : State :=
  let s1 := s.writeTimeout timeout
  s1.done 28 [s1.fl.linkTimeout, s1.fl.lane.code]

/-- The levels and push enables with the fields present (R186). -/
def ReportArbiter.write (r : ReportArbiter) (f : ReportFields) : ReportArbiter :=
  { r with
    levels := { response := clampedOr 0 3 f.response r.levels.response
                notice := clampedOr 0 3 f.notice r.levels.notice
                event := clampedOr 0 3 f.event r.levels.event
                interval := clampedOr 0 3 f.interval r.levels.interval
                capture := clampedOr 0 3 f.capture r.levels.capture }
    eventPushOn := (f.eventOn.map enableOfCode).getD r.eventPushOn
    intervalPushOn := (f.intervalOn.map enableOfCode).getD r.intervalPushOn }

/-- The seven fields of SET REPORTS. -/
def ReportArbiter.words (r : ReportArbiter) : List Nat :=
  [r.levels.response, r.levels.notice, r.levels.event, r.levels.interval, r.levels.capture, flagNat r.eventPushOn,
    flagNat r.intervalPushOn]

/-- SET REPORTS (R186). -/
def State.doSetReports (s : State) (f : ReportFields) : State :=
  let r := s.ra.write f
  (s.withRa r).done 29 r.words

/-- The thirteen enables replaced, and the test of R191 made (R190). Bits 13 to 23 of the enable set name no cause, and no
rule says what they do: they are ignored (DESIGN CHOICE, assumption 36). -/
def NoticeUnit.enable (nu : NoticeUnit) (v : Option (BitVec 24)) : NoticeUnit :=
  match v with
  | none => nu
  | some x => NoticeUnit.test { nu with enables := x.setWidth 13 }

/-- SET NOTICES (R190). -/
def State.doSetNotices (s : State) (enables : Option (BitVec 24)) : State :=
  let nu := s.nu.enable enables
  (s.withNu nu).done 30 [nu.enables.toNat, nu.requests.toNat]

/-- The requests of the causes named are cleared (R192). Bits 13 to 23 of the cause set name no cause, and no rule says
what they do: they are ignored (DESIGN CHOICE, assumption 36). -/
def NoticeUnit.acknowledge (nu : NoticeUnit) (v : Option (BitVec 24)) : NoticeUnit :=
  match v with
  | none => nu
  | some x => { nu with requests := nu.requests &&& ~~~(x.setWidth 13) }

/-- ACK NOTICES (R192). -/
def State.doAckNotices (s : State) (causes : Option (BitVec 24)) : State :=
  let nu := s.nu.acknowledge causes
  (s.withNu nu).done 31 [nu.requests.toNat]

/-! ## Status (R185) -/

/-- GET STATUS (R185). -/
def State.doGetStatus (s : State) : State := s.done 32 s.statusWords

/-- IDENTIFY (R185). -/
def State.doIdentify (s : State) : State := s.done 33 [27, 441, 2]

/-! ## Unknown commands and the relay (R165, R182) -/

/-- A RECORDER message whose command code names no command (R182). -/
def State.doUnknown (s : State) (code : Nat) : State := s.refuse code .unknown

/-- A FRONT END message: its payload enters the relay buffer; with no payload it is answered RELAYED at once (R165). -/
def State.doRelay (s : State) (code : Nat) (payload : List Word) : State :=
  match payload with
  | [] => s.answer code .relayed []
  | _ :: _ =>
    State.withCu (s.withFl { s.fl with relay := payload }) { s.cu with state := .executing, work := .relaying code }

/-- The clearing of CLEAR RECORDS is complete: DONE is placed, the deferred closes are made (R184). -/
def State.completeClear (s : State) : State :=
  if s.cu.work = .clearing then State.closeDeferred (s.done 3 []) else s

end Sys2Proof.Machine
end

