-- ==== Sys2Proof/Machine/Message.lean ====
section
/-! DEFINITION. Machine/Message.lean: return-lane words (R164), the assembly of messages (R182), the payload tests
(R179), and the command that a code names (section 11.3). -/

namespace Sys2Proof.Machine

/-- A RECORDER message whose payload tests have passed is acted on (section 11.3). -/
def State.runCommand (s : State) (code : Nat) (selector : BitVec 16) (fs : FieldList) : State :=
  match code with
  | 1 => s.doStart (narrowField fs 1)
  | 2 => s.doStop
  | 3 => s.doClearRecords
  | 4 => s.doSetChannel selector (channelFields fs)
  | 5 => s.doGetChannel selector
  | 6 => s.doSetProfile selector (profileFields fs)
  | 7 => s.doGetProfile selector
  | 8 => s.doSelectWriteSet selector
  | 9 => s.doSwitchProfile selector
  | 10 => s.doSetClasses (classFields fs)
  | 11 => s.doGetClasses selector
  | 12 => s.doClearCounts
  | 13 => s.doReadEvents (readEventsFields fs)
  | 14 => s.doReleaseEvents (releaseEventsFields fs)
  | 15 => s.doRetain
  | 16 => s.doSetCapture (captureFields fs)
  | 17 => s.doTrigger
  | 18 => s.doListCaptures
  | 19 => s.doReadCapture selector (narrowField fs 1)
  | 20 => s.doReleaseCapture selector
  | 21 => s.doReadIntervals (readIntervalsFields fs)
  | 22 => s.doSetObservation (observationFields fs)
  | 23 => s.doReadSummaries
  | 24 => s.doSetTime (timeFields fs)
  | 25 => s.doGetTime
  | 26 => s.doSetWake (wakeFields fs)
  | 27 => s.doStandby
  | 28 => s.doSetLink (narrowField fs 1)
  | 29 => s.doSetReports (reportFields fs)
  | 30 => s.doSetNotices (narrowField fs 1)
  | 31 => s.doAckNotices (narrowField fs 1)
  | 32 => s.doGetStatus
  | 33 => s.doIdentify
  | _ => s.doUnknown code

/-- A RECORDER command code names a command (section 11.3). -/
def namesCommand (code : Nat) : Bool := decide (1 ≤ code) && decide (code ≤ 33)

/-- A whole RECORDER message: UNKNOWN, or the payload tests, then the command (R179, R182). -/
def State.executeRecorder (s : State) (code : Nat) (selector : BitVec 16) (payload : List Word) : State :=
  if namesCommand code then
    match parseFields code false payload with
    | .error e => s.refuse code e
    | .ok fs => s.runCommand code selector fs
  else s.doUnknown code

/-- A whole message is executed (R182). -/
def State.executeMessage (s : State) (h : Word) (payload : List Word) : State :=
  if headerFrontEnd h then s.doRelay (headerCode h).toNat payload
  else s.executeRecorder (headerCode h).toNat (headerSelector h) payload

/-- A header word in IDLE (R182). -/
def State.headerIdle (s : State) (h : Word) : State :=
  if 61 ≤ headerLength h then s.placeOrDrop (answerOf (headerCode h).toNat .malformed [])
  else if headerLength h = 0 then s.beginExecution.executeMessage h []
  else s.withCu { s.cu with state := .assembling, buffer := [h] }

/-- A header word (R182). -/
def State.takeHeader (s : State) (h : Word) : State :=
  match s.cu.state with
  | .idle => s.headerIdle h
  | .assembling => s.abandon.headerIdle h
  | .executing => s.busy (headerCode h).toNat
  | .streaming => s.busy (headerCode h).toNat

/-- The buffer holds a whole message: its header and as many payload words as the header says. -/
def wholeMessage (buffer : List Word) : Bool := decide (headerLength (buffer.getD 0 0) + 1 ≤ buffer.length)

/-- A payload word (R182). -/
def State.takePayload (s : State) (w : Word) : State :=
  match s.cu.state with
  | .assembling =>
    let b := s.cu.buffer ++ [w]
    if wholeMessage b then s.beginExecution.executeMessage (b.getD 0 0) (b.drop 1)
    else s.withCu { s.cu with buffer := b }
  | .idle => s
  | .executing => s
  | .streaming => s

/-- A command word reaches the Command Unit (R182). -/
def State.commandWord (s : State) (w : Word) : State := if isHeader w then s.takeHeader w else s.takePayload w

/-- A bad return frame is reported to the Command Unit (R182). -/
def State.badReturn (s : State) : State :=
  match s.cu.state with
  | .assembling => s.abandon
  | .idle => s
  | .executing => s
  | .streaming => s

/-- A return word in RUN, by the return word position (R164). -/
def State.returnInRun (s : State) (w : Word) : State :=
  match s.fl.returnPosition with
  | .word0 => if marker w = 0x3C98#16 then s.setReturn (.word1 w) else s.badReturn
  | .word1 held =>
    if lowHalf held = frameCheck [w] then (s.setReturn .word0).commandWord w else (s.setReturn .word0).badReturn
  | .discard => s.setReturn .word0

/-- A word arrives on the return lane: in standby it wakes the part, and the word after it is discarded too (R177). -/
def State.returnWord (s : State) (w : Word) : State :=
  match s.tb.power with
  | .standby => (s.wake .returnActivity).setReturn .discard
  | .run => s.returnInRun w

end Sys2Proof.Machine
end

