-- ==== Sys2Proof/Machine/Reports.lean ====
section
/-! DEFINITION. Machine/Reports.lean: the Report Arbiter's grants and the ends of report messages (R187 to R191), and
the sending of outbound frames with their annotation (R160 to R163). -/

namespace Sys2Proof.Machine

/-! ## Sources (R187) -/

inductive Source where
  | response | notice | event | interval | capture
deriving DecidableEq, Repr

/-- The fixed order (R187). -/
def sources : List Source := [.response, .notice, .event, .interval, .capture]

def SourceLevels.get (v : SourceLevels) : Source → Nat
  | .response => v.response
  | .notice => v.notice
  | .event => v.event
  | .interval => v.interval
  | .capture => v.capture

/-- A source is pending. -/
def State.sourcePending (s : State) : Source → Bool
  | .response => !s.ra.responses.isEmpty
  | .notice => s.nu.queued
  | .event => !s.ra.eventPushes.isEmpty
  | .interval => !s.ra.intervalPushes.isEmpty
  | .capture => !s.ra.blockQueue.isEmpty

/-- The better of the source found so far and one later in the fixed order. -/
def betterSource (levels : SourceLevels) (best : Option Source) (x : Source) : Option Source :=
  match best with
  | none => some x
  | some b => if levels.get b < levels.get x then some x else some b

/-- The pending source with the highest level, the fixed order deciding among equals (R187). -/
def State.chooseSource (s : State) : Option Source :=
  (sources.filter s.sourcePending).foldl (betterSource s.ra.levels) none

/-! ## Grants (R183, R187, R189, R191) -/

/-- A place has freed in the response source: a response that waits is placed (R183). -/
def State.placeWaiting (s : State) : State :=
  match s.cu.waiting with
  | none => s
  | some x => (s.placeOrWait x).note .responsePlaced

/-- The grant to the response source. -/
def State.grantResponse (s : State) : State :=
  match s.ra.responses with
  | [] => s
  | x :: rest =>
    State.placeWaiting
      (s.withRa { s.ra with responses := rest, sending := some ⟨x.sentWords s.tb, .response x.form⟩ })

/-- The grant to the notice source. -/
def State.grantNotice (s : State) : State := s.withRa { s.ra with sending := some ⟨s.nu.words, .notice⟩ }

/-- The grant to the event push source (R189). -/
def State.grantEvent (s : State) : State :=
  match s.ra.eventPushes with
  | [] => s
  | p :: rest =>
    let r := s.er.find p.ident
    s.withRa { s.ra with eventPushes := rest, sending := some ⟨p.words r, .eventPush p (r.bind (·.capture))⟩ }

/-- The grant to the interval push source (R189). -/
def State.grantInterval (s : State) : State :=
  match s.ra.intervalPushes with
  | [] => s
  | i :: rest =>
    s.withRa { s.ra with
      intervalPushes := rest
      sending := some ⟨intervalPushWords i (s.iu.log.find? (fun r => r.index == i)), .intervalPush⟩ }

/-- The message of a block that waits in the capture-data source (R180). -/
def CaptureEngine.blockMessage (c : CaptureEngine) (b : BlockMessage) : List Word :=
  match c.find b.ident with
  | none => message 5 b.position [b.ident]
  | some x => message 5 b.position (c.blockWords x b.position)

/-- The grant to the capture-data source. -/
def State.grantCapture (s : State) : State :=
  match s.ra.blockQueue with
  | [] => s
  | b :: rest =>
    s.withRa { s.ra with
      blockQueue := rest
      sending := some ⟨s.ce.blockMessage b, .captureData b.ident rest.isEmpty⟩ }

/-- The grant to a source. -/
def State.grantTo (s : State) : Source → State
  | .response => s.grantResponse
  | .notice => s.grantNotice
  | .event => s.grantEvent
  | .interval => s.grantInterval
  | .capture => s.grantCapture

/-- The grant to the source chosen, if any is pending. -/
def State.grantChosen (s : State) : State :=
  match s.chooseSource with
  | none => s
  | some x => s.grantTo x

/-- A queued notice with no cause due is withdrawn when its turn comes (R191). -/
def State.withdrawNotice (s : State) : State :=
  if s.chooseSource = some .notice ∧ s.nu.attention = false then s.withNu { s.nu with queued := false } else s

/-- A grant is made where no message is in transmission (R187). -/
def State.grant (s : State) : State :=
  match s.ra.sending with
  | some _ => s
  | none => s.withdrawNotice.grantChosen

/-! ## Ends of messages (R104, R106, R128, R182, R191) -/

/-- An end message has been sent: the Command Unit is IDLE (R182). -/
def State.endStream (s : State) : State :=
  State.note (s.withCu { s.cu with state := .idle, stream := none }) .endMessageSent

/-- A response has been sent in full. -/
def State.responseSent (s : State) : ResponseForm → State
  | .single => s
  | .streamItem => (s.note .streamItemSent).streamNext
  | .endMessage => s.endStream

/-- An event push has been sent in full: a CLOSE marks the record (R106). -/
def State.pushSent (s : State) (p : EventPush) (named : Option Nat) : State :=
  match p.phase with
  | .opened => s
  | .closed => (s.note .eventPushSent).withEr (s.er.pushed p.ident named)

/-- A notice has been sent in full: the flag is cleared, then the test made (R191). -/
def State.noticeDone (s : State) : State :=
  (s.note .noticeSent).withNu (NoticeUnit.test { s.nu with queued := false })

/-- A block message has been sent in full; the last one ends the readout (R128). -/
def State.blockSent (s : State) (ident : Nat) (final : Bool) : State :=
  if final then (s.note .readoutEnd).endReadout ident else s

/-- The end of a message in transmission. -/
def State.messageSent (s : State) : SendTag → State
  | .response form => s.responseSent form
  | .notice => s.noticeDone
  | .eventPush p named => s.pushSent p named
  | .intervalPush => s
  | .captureData ident final => s.blockSent ident final

/-- The report word of the frame: the next word of the message in transmission, or the idle word (R161). -/
def State.reportWord (s : State) : Word :=
  match s.ra.sending with
  | none => 0
  | some m => m.left.getD 0 0

/-- One word of the message in transmission has been sent. -/
def State.wordSent (s : State) : State :=
  match s.ra.sending with
  | none => s
  | some m =>
    match m.left.drop 1 with
    | [] => State.messageSent (s.withRa { s.ra with sending := none }) m.tag
    | w :: ws => s.withRa { s.ra with sending := some { m with left := w :: ws } }

/-! ## Annotation (R162) -/

/-- The peak limit of a threshold. -/
def peakLimit (t : Nat) : Nat := 8388607 * t / 255

/-- A sample with its least significant bit set to a mark. -/
def withMark (x : BitVec 24) (mark : Bool) : BitVec 24 := (x >>> 1 <<< 1) ||| (BitVec.ofBool mark).setWidth 24

/-- The EVENT mark of a role (R162). -/
def EventTracker.mark (t : EventTracker) : Role → Bool
  | .l1 => t.detectors.l1 != .normal
  | .l2 => t.detectors.l2 != .normal
  | .l3 => t.detectors.l3 != .normal
  | .ne => t.supplyOpen
  | .pass => t.supplyOpen

/-- A forwarded sample by its slot's annotation mode (R162). -/
def annotate (t : EventTracker) (e : ChannelEntry) (x : BitVec 24) : BitVec 24 :=
  match e.annotation with
  | .plain => x
  | .event => withMark x (t.mark e.role)
  | .peak => withMark x (decide (peakLimit e.peak < x.toInt.natAbs))

/-- The samples of a frame with DATA as they are forwarded. -/
def State.annotated (s : State) (c : FrameContent) : Vector (BitVec 24) 8 :=
  Vector.ofFn (fun i => annotate s.et s.cc.table[i] c.samples[i])

/-! ## Outbound frames (R160, R161) -/

/-- The outbound frame with its report word granted. -/
def State.outboundFrame (s : State) (data subst : Bool) (samples : Vector (BitVec 24) 8) (overload : BitVec 8)
    (aux : Word) : OutboundFrame :=
  { seq := s.fl.outSeq, data := data, subst := subst, timeLocal := s.tb.source == .localOsc,
    attention := s.nu.attention, overload := overload, samples := samples, aux := aux, report := s.reportWord }

/-- Put a frame on the outbound lane. -/
def State.putOut (s : State) (f : OutboundFrame) : State :=
  State.withFl (s.withOut { s.out with outbound := s.out.outbound ++ [f] }) { s.fl with outSeq := s.fl.outSeq + 1 }

/-- One outbound frame is sent: a grant where one is due, the frame, and the end of a message whose last word it
carried (R161, R187). -/
def State.sendFrame (s : State) (data subst : Bool) (samples : Vector (BitVec 24) 8) (overload : BitVec 8)
    (aux : Word) : State :=
  let s1 := s.grant
  State.wordSent (s1.putOut (s1.outboundFrame data subst samples overload aux))

/-- A frame taken in ALIGNED is forwarded (R160). -/
def State.forwardData (s : State) (c : FrameContent) (subst : Bool) (aux : Word) : State :=
  s.sendFrame true subst (s.annotated c) c.overload aux

/-- A frame taken in CHECK is forwarded as received (R160). -/
def State.forwardCheck (s : State) (f : InboundFrame) : State :=
  s.sendFrame false false f.samples f.overload f.aux

/-- A paced frame of HUNT or LOST (R160). -/
def State.pacedFrame (s : State) : State := s.sendFrame false false (Vector.replicate 8 0) 0 0

end Sys2Proof.Machine
end

