-- ==== Sys2Proof/Machine/Link.lean ====
section
/-! DEFINITION. Machine/Link.lean: inbound frames by lane state (R153, R155, R157 to R159), inbound words, the local
tick (R154, R160, R165, R168) and its order (assumption 4). -/

namespace Sys2Proof.Machine

/-! ## Frames taken in ALIGNED (R157, R158) -/

/-- A frame taken in ALIGNED: one advance, then it is forwarded, then it reaches the data path. -/
def State.takeData (s : State) (c : FrameContent) (subst : Bool) (aux : Word) : State :=
  (s.advance.forwardData c subst aux).dataFrame c subst

/-- n substituted frames, copies of the last good frame (R158). -/
def State.patch (c : FrameContent) : Nat → State → State
  | 0, s => s
  | n + 1, s => State.patch c n (s.takeData c true 0)

/-- The difference of a sequence number to the last good one, modulo 16 (R157). -/
def FrameLink.difference (f : FrameLink) (seq : BitVec 4) : Nat :=
  match f.lastSeq with
  | none => 1
  | some last => (seq - last).toNat

/-- The frame that substituted frames repeat. -/
def FrameLink.repeated (f : FrameLink) : FrameContent := f.lastFrame.getD ⟨Vector.replicate 8 0, 0⟩

/-- After a frame taken in ALIGNED: last good ones, silence count and timeout reference (R154, R157). -/
def FrameLink.taken (fl : FrameLink) (f : InboundFrame) : FrameLink :=
  { fl with lastSeq := some f.seq, lastFrame := some (frameContent f), silence := 0, sinceReference := 0,
            timeoutPassed := false }

/-- A good frame in ALIGNED (R157): taken, discarded as a duplicate, or taken after the gap is patched. -/
def State.alignedFrame (s : State) (f : InboundFrame) : State :=
  match s.fl.difference f.seq with
  | 0 => s
  | d + 1 =>
    let s1 := State.patch s.fl.repeated d s
    let s2 := s1.takeData (frameContent f) false f.aux
    s2.withFl (s2.fl.taken f)

/-! ## Frames in CHECK (R155) -/

/-- A frame taken in CHECK: last good ones, check count, silence count. -/
def FrameLink.checked (fl : FrameLink) (f : InboundFrame) : FrameLink :=
  { fl with lastSeq := some f.seq, lastFrame := some (frameContent f), checkCount := fl.checkCount + 1, silence := 0 }

/-- The frame follows in sequence. -/
def FrameLink.follows (fl : FrameLink) (f : InboundFrame) : Bool :=
  match fl.lastSeq with
  | none => false
  | some last => f.seq == last + 1

/-- A good frame in CHECK (R155): the fourth makes ALIGNED, and it is forwarded as a CHECK frame (R159). -/
def State.checkFrame (s : State) (f : InboundFrame) : State :=
  if s.fl.follows f then
    let s1 := State.forwardCheck (s.withFl (s.fl.checked f)) f
    if 4 ≤ s1.fl.checkCount then (s1.note .checkCountReachesFour).becomeAligned else s1
  else s.leaveCheck

/-- A good frame as the grouping delivers it (R155). In HUNT and LOST the lane changes, with its LINK_CHANGED, before the
frame is forwarded (the model's order, assumption 5). -/
def State.goodFrame (s : State) (f : InboundFrame) : State :=
  match s.fl.lane with
  | .hunt => (s.enterCheck f).forwardCheck f
  | .lost => (s.enterCheck f).forwardCheck f
  | .check => s.checkFrame f
  | .aligned => s.alignedFrame f

/-- A bad frame as the grouping delivers it (R155, R159). -/
def State.badFrame (s : State) : State :=
  match s.fl.lane with
  | .check => s.leaveCheck
  | .aligned => s
  | .hunt => s
  | .lost => s

/-! ## Words (R153) -/

/-- The words being grouped. -/
def State.grouping (s : State) (ws : List Word) : State := s.withFl { s.fl with inboundWords := ws }

/-- A word can begin a candidate. -/
def startsFrame (w : Word) : Bool := marker w == 0x3C96#16

/-- The search of HUNT and LOST: a word outside a candidate. -/
def State.searchWord (s : State) (w : Word) : State := if startsFrame w then s.grouping [w] else s

/-- The search: a candidate of eleven words is a frame, or its word 0 is dropped and the others examined again. -/
def State.candidate (s : State) (ws : List Word) : State :=
  if ws.length < 11 then s.grouping ws
  else if inboundGood ws then (s.grouping []).goodFrame (inboundFields ws)
  else s.grouping ((ws.drop 1).dropWhile (fun w => !startsFrame w))

/-- The groups of eleven of CHECK and ALIGNED. -/
def State.groupWords (s : State) (ws : List Word) : State :=
  if ws.length < 11 then s.grouping ws
  else if inboundGood ws then (s.grouping []).goodFrame (inboundFields ws)
  else (s.grouping []).badFrame

/-- The search of HUNT and LOST takes a word. -/
def State.huntWord (s : State) (w : Word) : State :=
  if s.fl.inboundWords.isEmpty then s.searchWord w else s.candidate (s.fl.inboundWords ++ [w])

/-- An inbound word in RUN. -/
def State.inboundInRun (s : State) (w : Word) : State :=
  match s.fl.lane with
  | .hunt => s.huntWord w
  | .lost => s.huntWord w
  | .check => s.groupWords (s.fl.inboundWords ++ [w])
  | .aligned => s.groupWords (s.fl.inboundWords ++ [w])

/-- An inbound word in standby: it wakes the part while the enable is on, and is discarded (R177). -/
def State.inboundActivity (s : State) : State := if s.tb.inboundWake then s.wake .inboundActivity else s

/-- A word arrives on the inbound lane (R153). -/
def State.inboundWord (s : State) (w : Word) : State :=
  match s.tb.power with
  | .standby => s.inboundActivity
  | .run => s.inboundInRun w

/-- Words arrive on the inbound lane in order. -/
def State.inboundLane (s : State) (ws : List Word) : State := ws.foldl State.inboundWord s

/-- A good frame arrives, grouped by R153; in standby its words are wake activity, and what follows the waking one is
searched (R177). -/
def State.inboundFrame (s : State) (f : InboundFrame) : State :=
  match s.tb.power with
  | .standby => s.inboundLane (inboundWords f)
  | .run => (s.grouping []).goodFrame f

/-! ## The local tick -/

/-- The lane counts silence (R154). -/
def LaneState.watched : LaneState → Bool
  | .check => true
  | .aligned => true
  | .hunt => false
  | .lost => false

/-- The lane is paced (R160). -/
def LaneState.paced : LaneState → Bool
  | .hunt => true
  | .lost => true
  | .check => false
  | .aligned => false

/-- The two counts of R154 take a local tick. The ticks since the reference matter up to the greatest timeout. -/
def FrameLink.tick (f : FrameLink) : FrameLink :=
  { f with silence := if f.lane.watched then saturatingSucc Config.silenceLimit f.silence else f.silence,
           sinceReference := saturatingSucc 65535 f.sinceReference }

/-- The silence count has reached its limit (R154). -/
def FrameLink.silent (f : FrameLink) : Bool := f.lane.watched && decide (Config.silenceLimit ≤ f.silence)

/-- The silence count's expiry ends CHECK or ALIGNED (R155). -/
def State.testSilence (s : State) : State :=
  if s.fl.silent then
    match s.fl.lane with
    | .aligned => (s.note .silenceCountExpiry).loseAlignment
    | .check => (s.note .silenceCountExpiry).leaveCheck
    | .hunt => s
    | .lost => s
  else s

/-- The link timeout is reached (R154). -/
def State.tickTimeout (s : State) : State :=
  if s.fl.timeoutDue then (s.note .linkTimeoutExpiry).passTimeout else s

/-- RELAYED is placed once the last relay frame has been sent (R165). -/
def State.relayDone (s : State) : State :=
  match s.cu.work with
  | .relaying code => (s.note .relayComplete).answer code .relayed []
  | .idle => s
  | .clearing => s

/-- One relay frame per local tick (R165). -/
def State.relayTick (s : State) : State :=
  match s.fl.relay with
  | [] => s
  | w :: rest =>
    let s1 := State.withFl (s.withOut { s.out with relayed := s.out.relayed ++ [w] }) { s.fl with relay := rest }
    if rest.isEmpty then s1.relayDone else s1

/-- Device time takes a local tick while the source is LOCAL (R168). -/
def State.tickTime (s : State) : State :=
  match s.tb.source with
  | .localOsc => s.advance
  | .frame => s

/-- A local tick in RUN, in the order of assumption 4. -/
def State.tickRun (s : State) : State :=
  let s1 := s.tickTime
  let s2 := (State.testSilence (s1.withFl s1.fl.tick)).tickTimeout
  let s3 := if s.fl.lane.paced then s2.pacedFrame else s2
  s3.relayTick

/-- A tick of the local oscillator (R168, R175). -/
def State.tick (s : State) : State :=
  match s.tb.power with
  | .run => s.tickRun
  | .standby => s.advance

/-- An arrival that moves the part's time or its outbound lane. -/
def State.arrive (s : State) : Arrival → State
  | .tick => s.tick
  | .frame f => s.inboundFrame f

end Sys2Proof.Machine
end

