-- ==== Sys2Proof/Machine/Arrivals.lean ====
section
/-! DEFINITION. Machine/Arrivals.lean: the meanings of the arrivals: power-on, a local tick, inbound frames and words,
return words, wake activity, the end of a clearing. -/

namespace Sys2Proof.Machine

/-- POWER_ON: every item of every block takes its power-on value (R1, R17, R33, R49, R50, R63, R66, R87, R95, R107,
R131, R150, R167, R182, R187, R190); the queue of commands is the model's and stays. -/
def execPowerOn (s : State) : Host.Outcome State Fault Refusal := .next (State.reset.withPending s.pending)

/-- LOCAL_OSCILLATOR_TICK (R154, R160, R165, R168, R176). -/
def execLocalOscillatorTick (s : State) : Host.Outcome State Fault Refusal := .next s.begin.tick

/-- GOOD_INBOUND_FRAME (R155, R157). -/
def execGoodInboundFrame (f : InboundFrame) (s : State) : Host.Outcome State Fault Refusal :=
  .next (s.begin.inboundFrame f)

/-- BAD_INBOUND_FRAME (R153, R155, R159): its words as they arrive. -/
def execBadInboundFrame (words : List (BitVec 32)) (s : State) : Host.Outcome State Fault Refusal :=
  .next (s.begin.inboundLane words)

/-- What a word does on its lane in standby (R177); in RUN it is no wake cause. -/
def State.activity (s : State) (lane : ActivityLane) : State :=
  match s.tb.power, lane with
  | .run, _ => s
  | .standby, .inbound => s.inboundActivity
  | .standby, .returnLane => (s.wake .returnActivity).setReturn .discard

/-- WAKE_ON_ACTIVITY (R177). -/
def execWakeOnActivity (lane : ActivityLane) (s : State) : Host.Outcome State Fault Refusal :=
  .next (s.begin.activity lane)

/-- Return words in order. -/
def State.returnLane (s : State) (word0 : Word) (word1 : Option Word) : State :=
  match word1 with
  | none => s.returnWord word0
  | some w => (s.returnWord word0).returnWord w

/-- RETURN_FRAME (R164, R177, R179, R182). -/
def execReturnFrame (word0 : BitVec 32) (word1 : Option (BitVec 32)) (s : State) :
    Host.Outcome State Fault Refusal := .next (s.begin.returnLane word0 word1)

/-- CLEAR_RECORDS_COMPLETE (R184). -/
def execClearRecordsComplete (s : State) : Host.Outcome State Fault Refusal := .next s.begin.completeClear

end Sys2Proof.Machine
end

