-- ==== Sys2Proof/Machine/Commands.lean ====
section
/-! DEFINITION. Machine/Commands.lean: the meanings of the message rows: a whole management message reaching the
Command Unit (R182), executed by its rule where the unit is free to. -/

namespace Sys2Proof.Machine

/-- UNKNOWN_COMMAND (R182). -/
def execUnknownCommand (code : BitVec 7) (s : State) : Host.Outcome State Fault Refusal :=
  .next (s.begin.receive code.toNat (fun t => t.doUnknown code.toNat))

/-- FRONT_END_RELAY (R165). -/
def execFrontEndRelay (code : BitVec 7) (payload : List (BitVec 32)) (s : State) :
    Host.Outcome State Fault Refusal :=
  .next (s.begin.receive code.toNat (fun t => t.doRelay code.toNat payload))

/-- START (R11). -/
def execStart (cycles : Option (BitVec 24)) (s : State) : Host.Outcome State Fault Refusal :=
  .next (s.begin.receive 1 (fun t => t.doStart cycles))

/-- STOP (R15). -/
def execStop (s : State) : Host.Outcome State Fault Refusal :=
  .next (s.begin.receive 2 (fun t => t.doStop))

/-- CLEAR_RECORDS (R184). -/
def execClearRecords (s : State) : Host.Outcome State Fault Refusal :=
  .next (s.begin.receive 3 (fun t => t.doClearRecords))

/-- SET_CHANNEL (R3, R4). -/
def execSetChannel (selector : BitVec 16) (fields : ChannelFields) (s : State) : Host.Outcome State Fault Refusal :=
  .next (s.begin.receive 4 (fun t => t.doSetChannel selector fields))

/-- GET_CHANNEL (R7). -/
def execGetChannel (selector : BitVec 16) (s : State) : Host.Outcome State Fault Refusal :=
  .next (s.begin.receive 5 (fun t => t.doGetChannel selector))

/-- SET_PROFILE (R51). -/
def execSetProfile (selector : BitVec 16) (fields : ProfileFields) (s : State) : Host.Outcome State Fault Refusal :=
  .next (s.begin.receive 6 (fun t => t.doSetProfile selector fields))

/-- GET_PROFILE (R56). -/
def execGetProfile (selector : BitVec 16) (s : State) : Host.Outcome State Fault Refusal :=
  .next (s.begin.receive 7 (fun t => t.doGetProfile selector))

/-- SELECT_WRITE_SET (R55). -/
def execSelectWriteSet (selector : BitVec 16) (s : State) : Host.Outcome State Fault Refusal :=
  .next (s.begin.receive 8 (fun t => t.doSelectWriteSet selector))

/-- SWITCH_PROFILE (R57). -/
def execSwitchProfile (selector : BitVec 16) (s : State) : Host.Outcome State Fault Refusal :=
  .next (s.begin.receive 9 (fun t => t.doSwitchProfile selector))

/-- SET_CLASSES (R91). -/
def execSetClasses (fields : ClassFields) (s : State) : Host.Outcome State Fault Refusal :=
  .next (s.begin.receive 10 (fun t => t.doSetClasses fields))

/-- GET_CLASSES (R93). -/
def execGetClasses (selector : BitVec 16) (s : State) : Host.Outcome State Fault Refusal :=
  .next (s.begin.receive 11 (fun t => t.doGetClasses selector))

/-- CLEAR_COUNTS (R94). -/
def execClearCounts (s : State) : Host.Outcome State Fault Refusal :=
  .next (s.begin.receive 12 (fun t => t.doClearCounts))

/-- READ_EVENTS (R104). -/
def execReadEvents (fields : ReadEventsFields) (s : State) : Host.Outcome State Fault Refusal :=
  .next (s.begin.receive 13 (fun t => t.doReadEvents fields))

/-- RELEASE_EVENTS (R103). -/
def execReleaseEvents (fields : ReleaseEventsFields) (s : State) : Host.Outcome State Fault Refusal :=
  .next (s.begin.receive 14 (fun t => t.doReleaseEvents fields))

/-- RETAIN (R102). -/
def execRetain (s : State) : Host.Outcome State Fault Refusal :=
  .next (s.begin.receive 15 (fun t => t.doRetain))

/-- SET_CAPTURE (R113). -/
def execSetCapture (fields : CaptureFields) (s : State) : Host.Outcome State Fault Refusal :=
  .next (s.begin.receive 16 (fun t => t.doSetCapture fields))

/-- TRIGGER (R125). -/
def execTrigger (s : State) : Host.Outcome State Fault Refusal :=
  .next (s.begin.receive 17 (fun t => t.doTrigger))

/-- LIST_CAPTURES (R126). -/
def execListCaptures (s : State) : Host.Outcome State Fault Refusal :=
  .next (s.begin.receive 18 (fun t => t.doListCaptures))

/-- READ_CAPTURE (R127). -/
def execReadCapture (ident : BitVec 16) (position : Option (BitVec 24)) (s : State) : Host.Outcome State Fault Refusal :=
  .next (s.begin.receive 19 (fun t => t.doReadCapture ident position))

/-- RELEASE_CAPTURE (R129). -/
def execReleaseCapture (ident : BitVec 16) (s : State) : Host.Outcome State Fault Refusal :=
  .next (s.begin.receive 20 (fun t => t.doReleaseCapture ident))

/-- READ_INTERVALS (R147). -/
def execReadIntervals (fields : ReadIntervalsFields) (s : State) : Host.Outcome State Fault Refusal :=
  .next (s.begin.receive 21 (fun t => t.doReadIntervals fields))

/-- SET_OBSERVATION (R145, R146). -/
def execSetObservation (fields : ObservationFields) (s : State) : Host.Outcome State Fault Refusal :=
  .next (s.begin.receive 22 (fun t => t.doSetObservation fields))

/-- READ_SUMMARIES (R148). -/
def execReadSummaries (s : State) : Host.Outcome State Fault Refusal :=
  .next (s.begin.receive 23 (fun t => t.doReadSummaries))

/-- SET_TIME (R171). -/
def execSetTime (fields : TimeFields) (s : State) : Host.Outcome State Fault Refusal :=
  .next (s.begin.receive 24 (fun t => t.doSetTime fields))

/-- GET_TIME (R173). -/
def execGetTime (s : State) : Host.Outcome State Fault Refusal :=
  .next (s.begin.receive 25 (fun t => t.doGetTime))

/-- SET_WAKE (R176). -/
def execSetWake (fields : WakeFields) (s : State) : Host.Outcome State Fault Refusal :=
  .next (s.begin.receive 26 (fun t => t.doSetWake fields))

/-- STANDBY (R174). -/
def execStandby (s : State) : Host.Outcome State Fault Refusal :=
  .next (s.begin.receive 27 (fun t => t.doStandby))

/-- SET_LINK (R186). -/
def execSetLink (timeout : Option (BitVec 24)) (s : State) : Host.Outcome State Fault Refusal :=
  .next (s.begin.receive 28 (fun t => t.doSetLink timeout))

/-- SET_REPORTS (R186). -/
def execSetReports (fields : ReportFields) (s : State) : Host.Outcome State Fault Refusal :=
  .next (s.begin.receive 29 (fun t => t.doSetReports fields))

/-- SET_NOTICES (R190). -/
def execSetNotices (enables : Option (BitVec 24)) (s : State) : Host.Outcome State Fault Refusal :=
  .next (s.begin.receive 30 (fun t => t.doSetNotices enables))

/-- ACK_NOTICES (R192). -/
def execAckNotices (causes : Option (BitVec 24)) (s : State) : Host.Outcome State Fault Refusal :=
  .next (s.begin.receive 31 (fun t => t.doAckNotices causes))

/-- GET_STATUS (R185). -/
def execGetStatus (s : State) : Host.Outcome State Fault Refusal :=
  .next (s.begin.receive 32 (fun t => t.doGetStatus))

/-- IDENTIFY (R185). -/
def execIdentify (s : State) : Host.Outcome State Fault Refusal :=
  .next (s.begin.receive 33 (fun t => t.doIdentify))

end Sys2Proof.Machine
end

