-- ==== Sys2Proof/Machine/Occurrences.lean ====
section
/-! DEFINITION. Machine/Occurrences.lean: the meanings of the rows that an arrival brings about. Each such row carries
its arrival; it is the step of that arrival, at a state in which the arrival brings the row about. Where the arrival
would not bring it about the row does not happen: nothing but the outputs of the step before changes (assumption 2). -/

namespace Sys2Proof.Machine

/-- The step t of an arrival at s, where it brings the occurrence about. -/
def State.happening (s : State) (o : Occurrence) (t : State) : Host.Outcome State Fault Refusal :=
  if t.out.occurred.contains o then .next t else .next s.begin

/-- CHECK_COUNT_REACHES_FOUR (R155): the fourth consecutive good frame of a CHECK makes the lane ALIGNED (R156, R159). -/
def execCheckCountReachesFour (f : InboundFrame) (s : State) : Host.Outcome State Fault Refusal :=
  s.happening .checkCountReachesFour (s.begin.inboundFrame f)

/-- SILENCE_COUNT_EXPIRY (R154): the silence count reaches 16 and ends CHECK or ALIGNED (R155, R168). -/
def execSilenceCountExpiry (s : State) : Host.Outcome State Fault Refusal := s.happening .silenceCountExpiry s.begin.tick

/-- LINK_TIMEOUT_EXPIRY (R154): timeout passed becomes set, and HUNT or CHECK gives way to LOST (R77, R155). -/
def execLinkTimeoutExpiry (s : State) : Host.Outcome State Fault Refusal := s.happening .linkTimeoutExpiry s.begin.tick

/-- FORCED_BOUNDARY (R22): a synthetic boundary is forced. -/
def execForcedBoundary (f : InboundFrame) (s : State) : Host.Outcome State Fault Refusal :=
  s.happening .forcedBoundary (s.begin.inboundFrame f)

/-- SEGMENT_END (R40): a boundary ends a segment (R30, R59, R133). -/
def execSegmentEnd (f : InboundFrame) (s : State) : Host.Outcome State Fault Refusal :=
  s.happening .segmentEnd (s.begin.inboundFrame f)

/-- CAPTURE_SPAN_END (R118): a boundary ends a FULL or THIN span. -/
def execCaptureSpanEnd (f : InboundFrame) (s : State) : Host.Outcome State Fault Refusal :=
  s.happening .captureSpanEnd (s.begin.inboundFrame f)

/-- POST_TRIGGER_COUNT_END (R121): the post-trigger count reaches P. -/
def execPostTriggerCountEnd (f : InboundFrame) (s : State) : Host.Outcome State Fault Refusal :=
  s.happening .postTriggerCountEnd (s.begin.inboundFrame f)

/-- MANUAL_CAPTURE_END (R121): the manual length is over. -/
def execManualCaptureEnd (f : InboundFrame) (s : State) : Host.Outcome State Fault Refusal :=
  s.happening .manualCaptureEnd (s.begin.inboundFrame f)

/-- INTERVAL_END (R137): device time reaches the open interval's end. -/
def execIntervalEnd (a : Arrival) (s : State) : Host.Outcome State Fault Refusal :=
  s.happening .intervalEnd (s.begin.arrive a)

/-- CLOSING_INTERVAL_TIMEOUT (R137): device time reaches E plus 48 ticks. -/
def execClosingIntervalTimeout (a : Arrival) (s : State) : Host.Outcome State Fault Refusal :=
  s.happening .closingIntervalTimeout (s.begin.arrive a)

/-- OBSERVATION_PERIOD_END (R143): an assessed close completes the observation period. -/
def execObservationPeriodEnd (a : Arrival) (s : State) : Host.Outcome State Fault Refusal :=
  s.happening .observationPeriodEnd (s.begin.arrive a)

/-- WAKE_TIMER_EXPIRY (R177): the wake countdown reaches 0. -/
def execWakeTimerExpiry (s : State) : Host.Outcome State Fault Refusal := s.happening .wakeTimerExpiry s.begin.tick

/-- RELAY_COMPLETE (R165): the last relay frame is sent and RELAYED answered. -/
def execRelayComplete (s : State) : Host.Outcome State Fault Refusal := s.happening .relayComplete s.begin.tick

/-- RESPONSE_PLACED (R183): a waiting response finds its place. -/
def execResponsePlaced (a : Arrival) (s : State) : Host.Outcome State Fault Refusal :=
  s.happening .responsePlaced (s.begin.arrive a)

/-- STREAM_ITEM_SENT (R104): a stream item has been sent in full and the next choice is made (R147, R148). -/
def execStreamItemSent (a : Arrival) (s : State) : Host.Outcome State Fault Refusal :=
  s.happening .streamItemSent (s.begin.arrive a)

/-- END_MESSAGE_SENT (R182): a stream's end message has been sent in full. -/
def execEndMessageSent (a : Arrival) (s : State) : Host.Outcome State Fault Refusal :=
  s.happening .endMessageSent (s.begin.arrive a)

/-- EVENT_PUSH_SENT (R189): an event push of phase CLOSE has been sent in full (R106). -/
def execEventPushSent (a : Arrival) (s : State) : Host.Outcome State Fault Refusal :=
  s.happening .eventPushSent (s.begin.arrive a)

/-- NOTICE_SENT (R191): a notice has been sent in full. -/
def execNoticeSent (a : Arrival) (s : State) : Host.Outcome State Fault Refusal :=
  s.happening .noticeSent (s.begin.arrive a)

/-- READOUT_END (R128): the last block message of a readout has been sent in full. -/
def execReadoutEnd (a : Arrival) (s : State) : Host.Outcome State Fault Refusal :=
  s.happening .readoutEnd (s.begin.arrive a)

end Sys2Proof.Machine
end

