-- ==== Sys2Proof/Machine/Dispatch.lean ====
section
/-! DEFINITION. Machine/Dispatch.lean: one arm per row of the table. -/

namespace Sys2Proof.Machine

def exec (i : Instr) (s : State) : Host.Outcome State Fault Refusal :=
  match i with
  | .powerOn => Sys2Proof.Machine.execPowerOn s
  | .localOscillatorTick => Sys2Proof.Machine.execLocalOscillatorTick s
  | .goodInboundFrame f => Sys2Proof.Machine.execGoodInboundFrame f s
  | .badInboundFrame words => Sys2Proof.Machine.execBadInboundFrame words s
  | .checkCountReachesFour f => Sys2Proof.Machine.execCheckCountReachesFour f s
  | .silenceCountExpiry => Sys2Proof.Machine.execSilenceCountExpiry s
  | .linkTimeoutExpiry => Sys2Proof.Machine.execLinkTimeoutExpiry s
  | .forcedBoundary f => Sys2Proof.Machine.execForcedBoundary f s
  | .segmentEnd f => Sys2Proof.Machine.execSegmentEnd f s
  | .captureSpanEnd f => Sys2Proof.Machine.execCaptureSpanEnd f s
  | .postTriggerCountEnd f => Sys2Proof.Machine.execPostTriggerCountEnd f s
  | .manualCaptureEnd f => Sys2Proof.Machine.execManualCaptureEnd f s
  | .intervalEnd a => Sys2Proof.Machine.execIntervalEnd a s
  | .closingIntervalTimeout a => Sys2Proof.Machine.execClosingIntervalTimeout a s
  | .observationPeriodEnd a => Sys2Proof.Machine.execObservationPeriodEnd a s
  | .wakeOnActivity lane => Sys2Proof.Machine.execWakeOnActivity lane s
  | .wakeTimerExpiry => Sys2Proof.Machine.execWakeTimerExpiry s
  | .returnFrame word0 word1 => Sys2Proof.Machine.execReturnFrame word0 word1 s
  | .unknownCommand code => Sys2Proof.Machine.execUnknownCommand code s
  | .frontEndRelay code payload => Sys2Proof.Machine.execFrontEndRelay code payload s
  | .relayComplete => Sys2Proof.Machine.execRelayComplete s
  | .start cycles => Sys2Proof.Machine.execStart cycles s
  | .stop => Sys2Proof.Machine.execStop s
  | .clearRecords => Sys2Proof.Machine.execClearRecords s
  | .clearRecordsComplete => Sys2Proof.Machine.execClearRecordsComplete s
  | .setChannel selector fields => Sys2Proof.Machine.execSetChannel selector fields s
  | .getChannel selector => Sys2Proof.Machine.execGetChannel selector s
  | .setProfile selector fields => Sys2Proof.Machine.execSetProfile selector fields s
  | .getProfile selector => Sys2Proof.Machine.execGetProfile selector s
  | .selectWriteSet selector => Sys2Proof.Machine.execSelectWriteSet selector s
  | .switchProfile selector => Sys2Proof.Machine.execSwitchProfile selector s
  | .setClasses fields => Sys2Proof.Machine.execSetClasses fields s
  | .getClasses selector => Sys2Proof.Machine.execGetClasses selector s
  | .clearCounts => Sys2Proof.Machine.execClearCounts s
  | .readEvents fields => Sys2Proof.Machine.execReadEvents fields s
  | .releaseEvents fields => Sys2Proof.Machine.execReleaseEvents fields s
  | .retain => Sys2Proof.Machine.execRetain s
  | .setCapture fields => Sys2Proof.Machine.execSetCapture fields s
  | .trigger => Sys2Proof.Machine.execTrigger s
  | .listCaptures => Sys2Proof.Machine.execListCaptures s
  | .readCapture ident position => Sys2Proof.Machine.execReadCapture ident position s
  | .releaseCapture ident => Sys2Proof.Machine.execReleaseCapture ident s
  | .readIntervals fields => Sys2Proof.Machine.execReadIntervals fields s
  | .setObservation fields => Sys2Proof.Machine.execSetObservation fields s
  | .readSummaries => Sys2Proof.Machine.execReadSummaries s
  | .setTime fields => Sys2Proof.Machine.execSetTime fields s
  | .getTime => Sys2Proof.Machine.execGetTime s
  | .setWake fields => Sys2Proof.Machine.execSetWake fields s
  | .standby => Sys2Proof.Machine.execStandby s
  | .setLink timeout => Sys2Proof.Machine.execSetLink timeout s
  | .setReports fields => Sys2Proof.Machine.execSetReports fields s
  | .setNotices enables => Sys2Proof.Machine.execSetNotices enables s
  | .ackNotices causes => Sys2Proof.Machine.execAckNotices causes s
  | .getStatus => Sys2Proof.Machine.execGetStatus s
  | .identify => Sys2Proof.Machine.execIdentify s
  | .responsePlaced a => Sys2Proof.Machine.execResponsePlaced a s
  | .streamItemSent a => Sys2Proof.Machine.execStreamItemSent a s
  | .endMessageSent a => Sys2Proof.Machine.execEndMessageSent a s
  | .eventPushSent a => Sys2Proof.Machine.execEventPushSent a s
  | .noticeSent a => Sys2Proof.Machine.execNoticeSent a s
  | .readoutEnd a => Sys2Proof.Machine.execReadoutEnd a s

end Sys2Proof.Machine
end

