-- ==== Sys2Proof/Safety.lean ====
section
/-! DEFINITION. Safety.lean: the terms that claims about the DP441 are made in: when the Command Unit is free to
execute a message, what an answered command leaves, what a boundary does to events and captures, and the laws
of the manual that every state of a run keeps. -/

namespace Sys2Proof.Machine

/-! ## Answered commands (R182, R183) -/

/-- The part is in RUN, its Command Unit is IDLE with no stream, and the response source has a place: a message that
arrives is executed and its response placed. -/
def State.Free (s : State) : Prop :=
  s.tb.power = .run ∧ s.cu.state = .idle ∧ s.cu.stream = none ∧ s.ra.responses.length < 8

/-- The Command Unit after a command that was answered. -/
def CommandUnit.answered (c : CommandUnit) : CommandUnit :=
  { c with state := .idle, buffer := [], work := .idle, waiting := none }

/-- The state with one more single response at the end of the response source, the Command Unit IDLE, and every other
item as it was. -/
def State.answered (s : State) (code : Nat) (status : Status) (ws : List Nat) : State :=
  (s.withRa { s.ra with responses := s.ra.responses ++
      [{ form := .single, code := code, status := status, body := .words (ws.map word) }] }).withCu s.cu.answered

/-- The response source has one more single response, with these words, at its end. -/
def State.responded (s t : State) (code : Nat) (status : Status) (ws : List Nat) : Prop :=
  t.ra.responses = s.ra.responses ++ [answerOf code status ws]

/-- The responses with one more at the end where there is a place for it (R183). -/
def ReportArbiter.placedOrDropped (r : ReportArbiter) (code : Nat) (status : Status) : List Response :=
  if r.responses.length < 8 then r.responses ++ [answerOf code status []] else r.responses

/-- Nothing but the response source, the Command Unit and the outputs differs from the state before. -/
def State.sameBlocks (s t : State) : Prop :=
  t.fl = s.fl ∧ t.cc = s.cc ∧ t.ct = s.ct ∧ t.re = s.re ∧ t.ps = s.ps ∧ t.et = s.et ∧ t.cm = s.cm ∧ t.er = s.er ∧
  t.ce = s.ce ∧ t.iu = s.iu ∧ t.tb = s.tb ∧ t.nu = s.nu ∧ t.pending = s.pending

/-- The command code of a message row with its own code; `none` for a row that is no message. -/
def messageCode : Instr → Option Nat
  | .unknownCommand c => some c.toNat
  | .frontEndRelay c _ => some c.toNat
  | .start _ => some 1
  | .stop => some 2
  | .clearRecords => some 3
  | .setChannel _ _ => some 4
  | .getChannel _ => some 5
  | .setProfile _ _ => some 6
  | .getProfile _ => some 7
  | .selectWriteSet _ => some 8
  | .switchProfile _ => some 9
  | .setClasses _ => some 10
  | .getClasses _ => some 11
  | .clearCounts => some 12
  | .readEvents _ => some 13
  | .releaseEvents _ => some 14
  | .retain => some 15
  | .setCapture _ => some 16
  | .trigger => some 17
  | .listCaptures => some 18
  | .readCapture _ _ => some 19
  | .releaseCapture _ => some 20
  | .readIntervals _ => some 21
  | .setObservation _ => some 22
  | .readSummaries => some 23
  | .setTime _ => some 24
  | .getTime => some 25
  | .setWake _ => some 26
  | .standby => some 27
  | .setLink _ => some 28
  | .setReports _ => some 29
  | .setNotices _ => some 30
  | .ackNotices _ => some 31
  | .getStatus => some 32
  | .identify => some 33
  | .powerOn => none
  | .localOscillatorTick => none
  | .goodInboundFrame _ => none
  | .badInboundFrame _ => none
  | .checkCountReachesFour _ => none
  | .silenceCountExpiry => none
  | .linkTimeoutExpiry => none
  | .forcedBoundary _ => none
  | .segmentEnd _ => none
  | .captureSpanEnd _ => none
  | .postTriggerCountEnd _ => none
  | .manualCaptureEnd _ => none
  | .intervalEnd _ => none
  | .closingIntervalTimeout _ => none
  | .observationPeriodEnd _ => none
  | .wakeOnActivity _ => none
  | .wakeTimerExpiry => none
  | .returnFrame _ _ => none
  | .relayComplete => none
  | .clearRecordsComplete => none
  | .responsePlaced _ => none
  | .streamItemSent _ => none
  | .endMessageSent _ => none
  | .eventPushSent _ => none
  | .noticeSent _ => none
  | .readoutEnd _ => none

/-- The command that a header with no payload stands for, for the commands without a field (section 11.3). -/
def headerCommand (code : Nat) (selector : BitVec 16) : Option Instr :=
  match code with
  | 2 => some .stop
  | 3 => some .clearRecords
  | 5 => some (.getChannel selector)
  | 7 => some (.getProfile selector)
  | 8 => some (.selectWriteSet selector)
  | 9 => some (.switchProfile selector)
  | 11 => some (.getClasses selector)
  | 12 => some .clearCounts
  | 15 => some .retain
  | 17 => some .trigger
  | 18 => some .listCaptures
  | 20 => some (.releaseCapture selector)
  | 23 => some .readSummaries
  | 25 => some .getTime
  | 27 => some .standby
  | 32 => some .getStatus
  | 33 => some .identify
  | _ => none

/-! ## Return frames and messages (R164, R179, R182) -/

/-- A good return frame with a command word. -/
def goodReturn (w : BitVec 32) : Instr := .returnFrame (halves 0x3C98#16 (frameCheck [w])) (some w)

/-- The fields of a command, in field-code order from 1, by its description: whether each is wide (R179, R181). -/
def commandFields (code : Nat) : List Bool :=
  match code with
  | 1 => [false]
  | 4 => List.replicate 5 false
  | 6 => List.replicate 12 false
  | 10 => List.replicate 6 false ++ List.replicate 4 true ++ List.replicate 3 false
  | 13 => [true, false, false]
  | 14 => [true, false]
  | 16 => List.replicate 8 false
  | 19 => [false]
  | 21 => [true, false]
  | 22 => List.replicate 4 false
  | 24 => [true, false]
  | 26 => List.replicate 2 false
  | 28 => [false]
  | 29 => List.replicate 7 false
  | 30 => [false]
  | 31 => [false]
  | _ => []

/-- A field of a command is wide. -/
def WideField (code field : Nat) : Prop := 1 ≤ field ∧ (commandFields code)[field - 1]? = some true

/-- A field word: bit 31 clear, the field code, the value. -/
def fieldWord (field : Nat) (v : BitVec 24) : BitVec 32 := (0#1 ++ BitVec.ofNat 7 field ++ v : BitVec 32)

/-- The payload of a list of fields with their values: a narrow field is one word; a wide one is a word with value 0 and
the halves of its value. -/
def payloadWords (code : Nat) (fs : List (Nat × BitVec 32)) : List (BitVec 32) :=
  (fs.map (fun x =>
    if (commandFields code)[x.1 - 1]? = some true then
      [fieldWord x.1 0, (0#16 ++ x.2.extractLsb' 16 16 : BitVec 32), (0#16 ++ x.2.extractLsb' 0 16 : BitVec 32)]
    else [fieldWord x.1 (x.2.setWidth 24)])).flatten

/-- Fields that a command has; in SET CLASSES, class codes and capture actions after a cell entry only (R179, R181). -/
def FieldsOf (code : Nat) (fs : List (Nat × BitVec 32)) : Prop :=
  (∀ x ∈ fs, 1 ≤ x.1 ∧ x.1 ≤ (commandFields code).length) ∧
  (code = 10 → ∀ (before : List (Nat × BitVec 32)) (x : Nat × BitVec 32) (after : List (Nat × BitVec 32)),
    fs = before ++ x :: after → x.1 = 12 ∨ x.1 = 13 → ∃ y ∈ before, y.1 = 11)

/-- A field's value, its later occurrence where it is given twice (R179). -/
def wideOf (fs : List (Nat × BitVec 32)) (field : Nat) : Option (BitVec 32) :=
  (fs.reverse.find? (fun x => x.1 == field)).map (·.2)

/-- The value of a narrow field. -/
def narrowOf (fs : List (Nat × BitVec 32)) (field : Nat) : Option (BitVec 24) :=
  (wideOf fs field).map (·.setWidth 24)

/-- The cell entries of SET CLASSES: each with the class code and the capture action that stand between it and the next
entry (R181), the later where one is given twice (assumption 22). -/
def cellsOf : List (Nat × BitVec 32) → List CellEntry
  | [] => []
  | x :: rest =>
    if x.1 = 11 then
      { cell := x.2.setWidth 24, code := narrowOf (rest.takeWhile (fun y => y.1 != 11)) 12,
        action := narrowOf (rest.takeWhile (fun y => y.1 != 11)) 13 } :: cellsOf rest
    else cellsOf rest

/-- The command that a code stands for with its selector and its fields, by the field lists of section 11.3 (R179). -/
def commandOf (code : Nat) (sel : BitVec 16) (fs : List (Nat × BitVec 32)) : Option Instr :=
  let v := narrowOf fs
  match code with
  | 1 => some (.start (v 1))
  | 4 => some (.setChannel sel { role := v 1, gain := v 2, offset := v 3, annotation := v 4, peak := v 5 })
  | 6 => some (.setProfile sel
      { nominal := v 1, mask := v 2, neLimit := v 3, bandLow := v 4, bandHigh := v 5, unom := v 6, intStart := v 7,
        intEnd := v 8, dipStart := v 9, dipEnd := v 10, swellEnd := v 11, swellStart := v 12 })
  | 10 => some (.setClasses
      { b1 := v 1, b2 := v 2, b3 := v 3, b4 := v 4, s1 := v 5, s2 := v 6, d1 := wideOf fs 7, d2 := wideOf fs 8,
        d3 := wideOf fs 9, d4 := wideOf fs 10, cells := cellsOf fs })
  | 13 => some (.readEvents { fromIdent := wideOf fs 1, count := v 2, filter := v 3 })
  | 14 => some (.releaseEvents { upTo := wideOf fs 1, watermark := v 2 })
  | 16 => some (.setCapture
      { pre := v 1, full := v 2, thin := v 3, factor := v 4, post := v 5, manual := v 6, maxBlocks := v 7,
        mode := v 8 })
  | 19 => some (.readCapture sel (v 1))
  | 21 => some (.readIntervals { fromIndex := wideOf fs 1, count := v 2 })
  | 22 => some (.setObservation { length := v 1, period := v 2, allowance := v 3, coverage := v 4 })
  | 24 => some (.setTime { seconds := wideOf fs 1, tick := v 2 })
  | 26 => some (.setWake { timer := v 1, inbound := v 2 })
  | 28 => some (.setLink (v 1))
  | 29 => some (.setReports
      { response := v 1, notice := v 2, event := v 3, interval := v 4, capture := v 5, eventOn := v 6,
        intervalOn := v 7 })
  | 30 => some (.setNotices (v 1))
  | 31 => some (.ackNotices (v 1))
  | _ => headerCommand code sel

/-- A message is under assembly, its header and these payload words in the buffer, and a return frame's first word is
expected. -/
def State.Assembling (s : State) (frontEnd : Bool) (code : BitVec 7) (sel : BitVec 16) (n : BitVec 6)
    (ws : List (BitVec 32)) : Prop :=
  s.tb.power = .run ∧ s.fl.returnPosition = .word0 ∧ s.cu.state = .assembling ∧
  s.cu.buffer = headerWord frontEnd code sel n :: ws

/-- The state with an empty, idle Command Unit. -/
def State.unassembled (s : State) : State := s.withCu { s.cu with state := .idle, buffer := [] }

/-- The state with a message under assembly abandoned: MALFORMED with its command code where there is a place, the
Command Unit IDLE (R182). -/
def State.abandoned (s : State) : State :=
  (s.withRa { s.ra with
    responses := s.ra.placedOrDropped (headerCode (s.cu.buffer.getD 0 0)).toNat .malformed }).unassembled

/-- An item after a write of its field: as it was where the field is absent, else the value sent, brought into its
range. -/
def ClampedTo (lo hi : Nat) (v : Option (BitVec 24)) (old new : Nat) : Prop :=
  (v = none → new = old) ∧ ∀ x, v = some x → new = max lo (min x.toNat hi)

/-- A duration bound after a write of its wide field, which lies in the bound's range as it is (R91). -/
def WrittenTo (v : Option (BitVec 32)) (old new : Nat) : Prop :=
  (v = none → new = old) ∧ ∀ x, v = some x → new = x.toNat

/-! ## Streams (R104, R147, R148) -/

/-- A stream item or end message of a command, with its words. -/
def streamMessage (form : ResponseForm) (code : Nat) (ws : List Nat) : Response :=
  { form := form, code := code, status := .done, body := .words (ws.map word) }

/-- READ EVENTS with `left` more to send from ident `next` on: x is its next message and y the stream after it. The
first record in the register's order, which is that of the idents, with an ident of at least `next` that the filter
admits is sent; where the count is used up the end message carries the number sent and the last ident, where no record
is left the number alone (R104). -/
def State.EventsNext (t : State) (next left : Nat) (filter : EventFilter) (sent : Nat) (last : Option Nat)
    (x : Response) (y : Option ReadStream) : Prop :=
  (left = 0 → x = streamMessage .endMessage 13 (match last with
    | none => [0, sent]
    | some n => [1, sent, n]) ∧ y = some (.events next left filter sent last)) ∧
  (0 < left →
    ((∀ r ∈ t.er.records, r.ident < next ∨ (filter = .unreported ∧ hasFlag r.flags .reported = true)) →
      x = streamMessage .endMessage 13 [0, sent] ∧ y = some (.events next left filter sent last)) ∧
    ∀ (before : List EventRecord) (r : EventRecord) (after : List EventRecord), t.er.records = before ++ r :: after →
      (∀ q ∈ before, q.ident < next ∨ (filter = .unreported ∧ hasFlag q.flags .reported = true)) → next ≤ r.ident →
      (filter = .unreported → hasFlag r.flags .reported = false) →
      x = streamMessage .streamItem 13 r.words ∧
        y = some (.events (r.ident + 1) (left - 1) filter (sent + 1) (some r.ident)))

/-- The end message of READ INTERVALS: presence bits, the number sent, the last index sent, the oldest index held
(R147; the second presence bit is the model's, assumption 35). -/
def intervalsEnd (sent : Nat) (last oldest : Option Nat) : Response :=
  streamMessage .endMessage 21 (match last, oldest with
    | none, none => [0, sent]
    | some n, none => [1, sent, n]
    | none, some k => [2, sent, k]
    | some n, some k => [3, sent, n, k])

/-- READ INTERVALS with `left` more to send from index `next` on: x is its next message and y the stream after it. The
first record of the log, which is in index order, with an index of at least `next` is sent; where the count is used up
or no record is left, the end message (R147). -/
def State.IntervalsNext (t : State) (next left sent : Nat) (last : Option Nat) (x : Response) (y : Option ReadStream) :
    Prop :=
  (left = 0 ∨ (∀ r ∈ t.iu.log, r.index < next) →
    x = intervalsEnd sent last (t.iu.log.head?.map (·.index)) ∧ y = some (.intervals next left sent last)) ∧
  ∀ (before : List IntervalRecord) (r : IntervalRecord) (after : List IntervalRecord),
    t.iu.log = before ++ r :: after → 0 < left → (∀ q ∈ before, q.index < next) → next ≤ r.index →
    x = streamMessage .streamItem 21 r.words ∧ y = some (.intervals (r.index + 1) (left - 1) (sent + 1) (some r.index))

/-- READ SUMMARIES, whose next summary has the serial number `next`, counted from the first ever made: x is its next
message and y the stream after it. The summary of that number, or the oldest held where it is gone, is sent; where none
is left, the end message with the running period (R148). -/
def State.SummariesNext (t : State) (next : Nat) (x : Response) (y : Option ReadStream) : Prop :=
  (∀ m, t.iu.summaries[next - t.iu.summariesGone]? = some m →
    x = streamMessage .streamItem 23 m.words ∧ y = some (.summaries (max next t.iu.summariesGone + 1))) ∧
  (t.iu.summaries.length ≤ next - t.iu.summariesGone →
    x = streamMessage .endMessage 23 ((match t.iu.firstIndex with
      | none => [0]
      | some n => [1, n]) ++ [t.iu.periodClosed] ++ (phases.map (fun p => (t.iu.counters.get p).toList)).flatten ++
        [t.iu.period, t.iu.allowance, t.iu.coverage]) ∧ y = some (.summaries next))

/-- x is the message that the stream r places next, and y the stream after it. -/
def State.StreamNext (t : State) (r : ReadStream) (x : Response) (y : Option ReadStream) : Prop :=
  match r with
  | .events next left filter sent last => t.EventsNext next left filter sent last x y
  | .intervals next left sent last => t.IntervalsNext next left sent last x y
  | .summaries next => t.SummariesNext next x y

/-! ## Grants (R187) -/

/-- A source holds something to send: a message waiting, a queued notice with a cause due, a push entry (R187, R191). -/
def State.Waits (s : State) : Source → Prop
  | .response => s.ra.responses ≠ []
  | .notice => s.nu.queued = true ∧ s.nu.requests &&& s.nu.enables ≠ 0
  | .event => s.ra.eventPushes ≠ []
  | .interval => s.ra.intervalPushes ≠ []
  | .capture => s.ra.blockQueue ≠ []

/-- The place of a source in the fixed order (R187). -/
def Source.place : Source → Nat
  | .response => 0
  | .notice => 1
  | .event => 2
  | .interval => 3
  | .capture => 4

/-- The grant goes to the source: it holds something, and no source that does has a higher level, or its level and an
earlier place (R187). -/
def State.Granted (s : State) (x : Source) : Prop :=
  s.Waits x ∧ ∀ y, s.Waits y → s.ra.levels.get y < s.ra.levels.get x ∨
    (s.ra.levels.get y = s.ra.levels.get x ∧ x.place ≤ y.place)

/-- A queued notice with no cause due is withdrawn: the turn would be its own (R187, R191). -/
def State.Withdrawn (s : State) : Prop :=
  s.nu.queued = true ∧ s.nu.requests &&& s.nu.enables = 0 ∧ ∀ y, s.Waits y →
    s.ra.levels.get y < s.ra.levels.notice ∨ (s.ra.levels.get y = s.ra.levels.notice ∧ Source.notice.place ≤ y.place)

/-! ## Arrivals -/

/-- n advances of a device time. -/
def timeAfter : Nat → DeviceTime → DeviceTime
  | 0, t => t
  | n + 1, t => timeAfter n t.next

/-- The lane is HUNT or LOST and the part in RUN, with no wake countdown: a tick paces one outbound frame, a good frame
enters CHECK and is forwarded as one. -/
def State.Searching (s : State) : Prop :=
  s.tb.power = .run ∧ s.tb.countdown = none ∧ (s.fl.lane = .hunt ∨ s.fl.lane = .lost)

/-- The lane is ALIGNED and the part in RUN, with no wake countdown. -/
def State.Aligned (s : State) : Prop := s.tb.power = .run ∧ s.tb.countdown = none ∧ s.fl.lane = .aligned

/-- The frame follows the last good one in sequence (R157). -/
def State.Consecutive (s : State) (f : InboundFrame) : Prop := ∃ last, s.fl.lastSeq = some last ∧ f.seq = last + 1

/-- The measurement state is STARTING or RUNNING. -/
def State.Measuring (s : State) : Prop := s.cc.measurement = .starting ∨ s.cc.measurement = .running

/-- The arrival is one advance of device time: a tick in standby, a tick on LOCAL time while the lane is searched, or a
consecutive frame in ALIGNED (R168). -/
def State.Advances (s : State) : Arrival → Prop
  | .tick => s.tb.power = .standby ∨ (s.Searching ∧ s.tb.source = .localOsc)
  | .frame f => s.Aligned ∧ s.Consecutive f

/-- A cause's request is set (R190). -/
def State.requested (s : State) (c : Cause) : Prop := s.nu.requests.getLsbD c.bit = true

/-- What the Cycle Tracker decides with the frame, by its own rules (R19 to R22). -/
def State.decides (s : State) (f : InboundFrame) : Option Decision :=
  (s.ct.frame s.bandOf (s.ct.sample (s.cc.record (frameContent f) false)) s.ps.nominalHalf).2

/-- A filling capture takes the frame without an end of filling: the frame is not taken, or has room in the last
block, or a free block can be taken under the limit (R118, R119). -/
def State.RoomToFill (s : State) (f : FillState) (c : Capture) : Prop :=
  s.ce.fill = some f ∧ s.ce.filling = some c ∧
  (f.takes = false ∨ needsBlock f (s.ce.lastBlock c) s.tb.now.next = false ∨
    (c.blocks.length < s.ce.settings.maxBlocks ∧ s.ce.free ≠ []))

/-! ## Half cycles and segments (R34 to R40) -/

/-- The late entry of a frame under a Channel Table: of every evaluated channel the square of its scaled sample and its
clipped mark (R8, R9, R34). -/
def Conditioner.entryOf (c : Conditioner) (f : FrameContent) (substituted : Bool) : LateEntry :=
  { squares := PerChannel.of (fun x => match c.slotOf x.role with
      | none => 0
      | some i => (scaleSample c.table[i].gain c.table[i].offset f.samples[i]).natAbs ^ 2)
    clipped := PerChannel.of (fun x => match c.slotOf x.role with
      | none => false
      | some i => sampleClipped c.table[i].gain c.table[i].offset f.samples[i] (f.overload.getLsbD i.val))
    substituted := substituted }

/-- The accumulators b are a with the entry e of a frame at this position of its half cycle taken in: below 98 into the
early sums and marks, from there on at the end of the late list; everything else of the RMS Engine is as it was (R34). -/
def RmsEngine.Accumulates (a b : RmsEngine) (position : Nat) (e : LateEntry) : Prop :=
  (position < 98 → b.late = a.late ∧ b.earlyCount = a.earlyCount + 1 ∧
    b.earlyPatched = (a.earlyPatched || e.substituted) ∧
    ∀ c : Channel, b.earlySums.get c = a.earlySums.get c + e.squares.get c ∧
      b.earlyClipped.get c = (a.earlyClipped.get c || e.clipped.get c)) ∧
  (98 ≤ position → b.late = a.late ++ [e] ∧ b.earlyCount = a.earlyCount ∧ b.earlyPatched = a.earlyPatched ∧
    b.earlySums = a.earlySums ∧ b.earlyClipped = a.earlyClipped) ∧
  b.previous = a.previous ∧ b.refreshed = a.refreshed ∧ b.segment = a.segment ∧ b.segmentSums = a.segmentSums ∧
  b.segmentClipped = a.segmentClipped

/-- The scaled samples of a frame under a Channel Table: of each evaluated channel present, in the order L1, L2, L3, NE
(R9, R108). -/
def Conditioner.samplesOf (c : Conditioner) (f : FrameContent) : List Int :=
  channels.filterMap (fun x =>
    (c.slotOf x.role).map (fun i => scaleSample c.table[i].gain c.table[i].offset f.samples[i]))

/-- The pre-trigger ring with the entry of the next frame taken: its samples and its device time, at the end of the at
most 1,143 newest entries; the first entry of an empty ring opens the first stretch (R108). -/
def State.ringWith (s : State) (f : InboundFrame) : List RingEntry :=
  (if s.ce.ring.length < 1144 then s.ce.ring else s.ce.ring.drop 1) ++
    [{ samples := s.cc.samplesOf (frameContent f), time := s.tb.now.next, opens := s.ce.ring.isEmpty }]

/-- A channel's squares of late entries, summed. -/
def sumOf (es : List LateEntry) (c : Channel) : Nat := (es.map (fun e => e.squares.get c)).sum

/-- Some late entry has the channel's clipped mark. -/
def clippedIn (es : List LateEntry) (c : Channel) : Bool := es.any (fun e => e.clipped.get c)

/-- Some late entry is of a substituted frame. -/
def patchedIn (es : List LateEntry) : Bool := es.any (·.substituted)

/-- h is the half cycle of n frames that a boundary closes: the early sums and marks with the late entries before the
boundary frame (R35, step 2). -/
def RmsEngine.Closes (r : RmsEngine) (es : List LateEntry) (n : Nat) (h : HalfCycle) : Prop :=
  h.count = n ∧ h.patched = (r.earlyPatched || patchedIn es) ∧
  ∀ c : Channel, h.sums.get c = r.earlySums.get c + sumOf es c ∧
    h.clipped.get c = (r.earlyClipped.get c || clippedIn es c)

/-- The new half cycle opens with these entries (R35, step 3). -/
def RmsEngine.Opens (r : RmsEngine) (es : List LateEntry) : Prop :=
  r.late = [] ∧ r.earlyCount = es.length ∧ r.earlyPatched = patchedIn es ∧
  ∀ c : Channel, r.earlySums.get c = sumOf es c ∧ r.earlyClipped.get c = clippedIn es c

/-- b is the accumulators a of a channel with one segment RMS taken (R133). -/
def ChannelTotals.Takes (a b : ChannelTotals) (r : Nat) : Prop :=
  b.sumSquares = a.sumSquares + r ^ 2 ∧ b.count = a.count + 1 ∧
  b.least = (if a.count = 0 then r else min a.least r) ∧ b.greatest = (if a.count = 0 then r else max a.greatest r)

/-- A phase channel meets the conditions of R18: watched, and its latest refreshed RMS, where there is one, at or above
its interruption-end level. -/
def State.MeetsReference (s : State) (p : Phase) : Prop :=
  s.watched p = true ∧ ∀ r, s.re.refreshed.get p = some r → (s.ps.levels.get p).intEnd ≤ r.value

/-! ## Interval closes (R138, R142, R143) -/

/-- The category of a phase channel at a close of the interval v (R142). -/
def State.categoryOf (s : State) (v : Interval) (p : Phase) : Category :=
  let a := v.totals.get p.channel
  if s.ps.activeSet.mask.get p = false then .excluded
  else if a.count = 0 then .noData
  else if v.has .event = true ∨ v.has .mixedProfile = true ∨ v.has .timeStep = true then .flagged
  else if exactRoot a.sumSquares a.count < (s.ps.levels.get p).bandLow then .low
  else if (s.ps.levels.get p).bandHigh < exactRoot a.sumSquares a.count then .high
  else .inBand

/-- The category of a phase channel at a close of the open interval as it stands (R142). -/
def State.closeCategory (s : State) (p : Phase) : Category := s.categoryOf s.iu.current p

/-- r is the record of the interval v, closed at a span in ticks (R138). The mean frequency m of n frequencies that sum to
f is f / n rounded half up. -/
def State.RecordsOf (s : State) (v : Interval) (span : Nat) (r : IntervalRecord) : Prop :=
  r.index = v.index ∧ r.start = v.start ∧ r.span = DeviceTime.ofTicks span ∧ r.length = v.length ∧
  (∀ c : Channel, r.counts.get c = (v.totals.get c).count ∧
    ((v.totals.get c).count = 0 → r.rms.get c = none ∧ r.extremes.get c = none) ∧
    ((v.totals.get c).count ≠ 0 →
      r.rms.get c = some (exactRoot (v.totals.get c).sumSquares (v.totals.get c).count) ∧
      r.extremes.get c = some ((v.totals.get c).least, (v.totals.get c).greatest))) ∧
  (∀ p : Phase, r.category.get p = s.categoryOf v p) ∧
  r.freqCount = v.freqCount ∧ (v.freqCount = 0 → r.meanFreq = none) ∧
  (v.freqCount ≠ 0 → ∃ m, r.meanFreq = some m ∧ 2 * v.freqCount * m ≤ 2 * v.freqSum + v.freqCount ∧
    2 * v.freqSum + v.freqCount < 2 * v.freqCount * (m + 1)) ∧
  r.flags = v.flags ∧ r.patched = v.patched ∧ r.clipped = v.clipped ∧ r.breaks = v.breaks ∧ r.profile = s.ps.active

/-- r is the record of the open interval, closed one tick from now (R138). -/
def State.Records (s : State) (r : IntervalRecord) : Prop := s.RecordsOf s.iu.current (s.iu.current.span + 1) r

/-- w is the interval v with one delivered segment taken in (R133, R134): the RMS of each channel that has one, the
frequency where there is one, and the segment's patched, clipped and event marks, its profile switch and its NE excess.
-/
def Interval.Receives (v w : Interval) (rms : Channel → Option Nat) (freq : Option Nat)
    (patched clipped event mixed neHigh : Bool) : Prop :=
  (∀ c : Channel, (rms c = none → w.totals.get c = v.totals.get c) ∧
    ∀ r, rms c = some r → (v.totals.get c).Takes (w.totals.get c) r) ∧
  (freq = none → w.freqSum = v.freqSum ∧ w.freqCount = v.freqCount) ∧
  (∀ m, freq = some m → w.freqSum = v.freqSum + m ∧ w.freqCount = v.freqCount + 1) ∧
  w.patched = v.patched + (if patched then 1 else 0) ∧ w.clipped = v.clipped + (if clipped then 1 else 0) ∧
  (∀ x : IntervalFlag, w.has x = (v.has x || (x == .event && event) || (x == .mixedProfile && mixed) ||
    (x == .neHigh && neHigh))) ∧
  w.index = v.index ∧ w.start = v.start ∧ w.endSec = v.endSec ∧ w.length = v.length ∧ w.span = v.span ∧
  w.breaks = v.breaks

/-- w is the interval v with the segment taken in that the boundary d ends on the way from s to t: the segment of s with
the half cycle that the boundary has closed (R40, R133, R134, R135). -/
def State.SegmentTo (s t : State) (d : Decision) (v w : Interval) : Prop :=
  ∀ (g : OpenSegment) (h : HalfCycle) (rms : Channel → Nat), s.re.segment = some g → t.re.previous = some h →
    (∀ c : Channel, rms c = exactRoot (s.re.segmentSums.get c + h.sums.get c) (g.count + h.count)) →
    v.Receives w (fun c => if s.cc.present c then some (rms c) else none)
      (if s.ct.segmentAccepted = true ∧ d.kind = .accepted then
        some (roundHalfUp (12800000 * s.ct.cycles) (s.ct.segmentFrames + d.frame)) else none)
      (g.patched || h.patched) (channels.any (fun c => s.re.segmentClipped.get c || h.clipped.get c))
      (s.iu.eventMark || s.et.supplyOpen || t.et.supplyOpen) (s.ps.switchTo.isSome && !s.et.supplyOpen)
      (s.cc.present .ne && decide (t.ps.neLevel < rms .ne))

/-- d is the counts c with one interval more in a category (R143). -/
def CategoryCounts.Counts (c d : CategoryCounts) (k : Category) : Prop :=
  d.excluded = c.excluded + (if k = .excluded then 1 else 0) ∧ d.noData = c.noData + (if k = .noData then 1 else 0) ∧
  d.flagged = c.flagged + (if k = .flagged then 1 else 0) ∧ d.low = c.low + (if k = .low then 1 else 0) ∧
  d.high = c.high + (if k = .high then 1 else 0) ∧ d.inBand = c.inBand + (if k = .inBand then 1 else 0)

/-- d is the counts c with one interval more for each category of a list (R143). -/
def CategoryCounts.CountsAll (c d : CategoryCounts) (ks : List Category) : Prop :=
  d.excluded = c.excluded + ks.count .excluded ∧ d.noData = c.noData + ks.count .noData ∧
  d.flagged = c.flagged + ks.count .flagged ∧ d.low = c.low + ks.count .low ∧ d.high = c.high + ks.count .high ∧
  d.inBand = c.inBand + ks.count .inBand

/-- The closes of the intervals vs, in order, are all logged: none is of the greatest index once that has closed (R139).
-/
def State.LogsAll (s : State) (vs : List Interval) : Prop :=
  (∀ v ∈ vs, v.index ≠ 4294967295) ∨ (s.iu.lastIndexClosed = false ∧ ∀ v ∈ vs.dropLast, v.index ≠ 4294967295)

/-- The closes of the intervals vs, in order, each closed at its span with the active set of u, take the log of s to that
of t: each appends its record at the end, and of more than 1,008 records the oldest are gone (R138, R139). Past the
greatest index none is appended. -/
def State.Logs (s t u : State) (vs : List Interval) : Prop :=
  (s.LogsAll vs → s.iu.log.length ≤ 1008 → ∃ rs, rs.length = vs.length ∧
    (∀ (i : Nat) (v : Interval) (r : IntervalRecord), vs[i]? = some v → rs[i]? = some r → u.RecordsOf v v.span r) ∧
    t.iu.log = (s.iu.log ++ rs).drop (s.iu.log.length + rs.length - 1008)) ∧
  (s.iu.lastIndexClosed = true → (∀ v ∈ vs, v.index = 4294967295) → t.iu.log = s.iu.log)

/-- The closes of vs, in order, are counted in a period that they do not complete: each in its category for each phase
channel (R143). -/
def State.CountsCloses (s t u : State) (vs : List Interval) : Prop :=
  s.iu.periodClosed + vs.length < s.iu.period →
    t.iu.periodClosed = s.iu.periodClosed + vs.length ∧
    t.iu.firstIndex = s.iu.firstIndex.or (vs.head?.map (·.index)) ∧ t.iu.summaries = s.iu.summaries ∧
    ∀ p : Phase, (s.iu.counters.get p).CountsAll (t.iu.counters.get p) (vs.map (fun v => u.categoryOf v p))

/-- The close of v, one of the closes of vs, completes the observation period: its summary, with the counts of the closes
up to it and the verdicts, is the newest of at most 4, OBSERVATION_CLOSED is raised, and a new period begins, in which the
closes after it, too few to complete it, are counted from 0 (R143, R144). -/
def State.EndsPeriod (s t u : State) (vs : List Interval) : Prop :=
  ∀ (xs : List Interval) (v : Interval) (ys : List Interval), vs = xs ++ v :: ys →
    s.iu.periodClosed + xs.length + 1 = s.iu.period → ys.length < s.iu.period →
    t.iu.periodClosed = ys.length ∧ t.iu.firstIndex = ys.head?.map (·.index) ∧
    (∀ p : Phase, CategoryCounts.CountsAll ⟨0, 0, 0, 0, 0, 0⟩ (t.iu.counters.get p)
      (ys.map (fun v => u.categoryOf v p))) ∧
    t.requested .observationClosed ∧
    ∃ m, t.iu.summaries = (if s.iu.summaries.length < 4 then s.iu.summaries else s.iu.summaries.drop 1) ++ [m] ∧
      m.first = (s.iu.firstIndex.or (xs.head?.map (·.index))).getD v.index ∧ m.last = v.index ∧
      m.period = s.iu.period ∧ m.allowance = s.iu.allowance ∧ m.coverage = s.iu.coverage ∧
      ∀ p : Phase, (s.iu.counters.get p).CountsAll (m.counts.get p) ((xs ++ [v]).map (fun v => u.categoryOf v p)) ∧
        ∀ n, n = m.counts.get p → m.verdicts.get p =
          (if (n.inBand + n.low + n.high) * 1000 < s.iu.coverage * s.iu.period then .insufficient
           else if (n.low + n.high) * 1000 ≤ s.iu.allowance * (n.inBand + n.low + n.high) then .pass
           else .fail)

/-- The push list b is a with the pushes of the closes of vs offered: while the enable is on each index is added where
fewer than 4 wait, PUSH_SKIPPED being raised for one that finds no room; a close that is not logged offers none (R139,
R188). -/
def State.OffersPushes (s t : State) (vs : List Interval) (a b : List Nat) : Prop :=
  (s.ra.intervalPushOn = false → b = a) ∧
  (s.ra.intervalPushOn = true → s.LogsAll vs → b = a ++ (vs.map (·.index)).take (4 - a.length) ∧
    (vs ≠ [] → 4 < a.length + vs.length → t.requested .pushSkipped)) ∧
  (s.iu.lastIndexClosed = true → (∀ v ∈ vs, v.index = 4294967295) → b = a)

/-- The interval push list of t is b, or, where no message was in transmission, b after the grant of its head (R187). -/
def State.PushesGranted (s t : State) (b : List Nat) : Prop :=
  t.ra.intervalPushes = b ∨ (s.ra.sending = none ∧ t.ra.intervalPushes = b.drop 1)

/-- The closes of vs, in order, are made and counted: records, counters and the period's end (R138, R139, R143, R144).
-/
def State.MakesCloses (s t u : State) (vs : List Interval) : Prop :=
  s.Logs t u vs ∧ s.CountsCloses t u vs ∧ s.EndsPeriod t u vs ∧ (vs ≠ [] → t.requested .intervalClosed)

/-! ## Captures: what is stored (R110, R111, R117 to R120) -/

/-- The span takes its next frame record: a FULL span every one, a THIN span those at offsets 0, D, 2D and so on (R118).
-/
def FillState.TakesRecord (x : FillState) : Prop := x.kind = .full ∨ x.offset % x.factor = 0

/-- An entry of this device time begins a new block after the block b: the first of its span, after a full block, or at a
time that is not the previous entry's plus the spacing (R111). -/
def FillState.BeginsBlock (x : FillState) (b : CaptureBlock) (time : DeviceTime) : Prop :=
  x.fresh = true ∨ 256 ≤ b.entries.length ∨ time ≠ b.first.plus (b.entries.length * b.spacing)

/-- A capture that an eviction takes: SETTLED with decision KEEP (R120). -/
def Capture.Evictable (c : Capture) : Prop := c.state = .settled ∧ c.decision = .keep

/-- The message in transmission, if there is one, has more than its last word to send: the next frame ends no readout, no
push and no response. -/
def State.Midway (s : State) : Prop := ∀ m, s.ra.sending = some m → 2 ≤ m.left.length

/-- Block n of t is b; every other block is as in s. -/
def State.BlockBecomes (s t : State) (n : Nat) (b : CaptureBlock) : Prop :=
  t.ce.block n = b ∧ ∀ m, m ≠ n → t.ce.block m = s.ce.block m

/-- The register b is a after the removal of the capture c: a record of a joined event that names c names none, with
CAPTURE_REMOVED, and DETAIL_LATE where it was reported; every other record is as it was (R105). -/
def EventRegister.Forgets (a b : EventRegister) (c : Capture) : Prop :=
  b.records.length = a.records.length ∧
  ∀ (i : Nat) (r : EventRecord), a.records[i]? = some r → ∃ q, b.records[i]? = some q ∧
    (r.ident ∈ c.joined ∧ r.capture = some c.ident → q.ident = r.ident ∧ q.capture = none ∧
      hasFlag q.flags .captureRemoved = true ∧
      (hasFlag r.flags .reported = true → hasFlag q.flags .detailLate = true)) ∧
    (¬(r.ident ∈ c.joined ∧ r.capture = some c.ident) → q = r)

/-- The device times of a block's entries: the first one's, and each later one's its place times the spacing after it
(R111). -/
def CaptureBlock.times (b : CaptureBlock) : List DeviceTime :=
  (List.range b.entries.length).map (fun j => if j = 0 then b.first else b.first.plus (j * b.spacing))

/-- The captures that evictions take, in their order (R120). -/
def State.evictables (s : State) : List Capture :=
  s.ce.directory.filter (fun e => e.state == .settled && e.decision == .keep)

/-- The capture c has taken its blocks at the head of the free list, after the evictions that its start needed and no
more: of the captures that can be evicted the first k in directory order are gone, their blocks at the tail of the free
list, and with fewer gone an entry or a block was wanting (R110, R117 steps 2 and 3, R120). -/
def State.TakesBlocks (s t : State) (c : Capture) : Prop :=
  ∃ k, k ≤ s.evictables.length ∧
    t.ce.directory = s.ce.directory.filter (fun e => !(s.evictables.take k).contains e) ++ [c] ∧
    c.blocks ++ t.ce.free = s.ce.free ++ ((s.evictables.take k).map (·.blocks)).flatten ∧
    (∀ j, j < k → 16 ≤ s.ce.directory.length - j ∨
      s.ce.free.length + (((s.evictables.take j).map (·.blocks)).flatten).length < c.blocks.length) ∧
    (0 < k → t.requested .captureEvicted) ∧ ∀ m, m ∉ c.blocks → t.ce.block m = s.ce.block m

/-- The blocks of the capture c hold its PRE span, from the ring of t: the entries es from the first of its c.preHeld
newest complete half cycles on, oldest first, in blocks of kind PRE with spacing 1, each with at most 256 entries of
successive times, and a new one begun only where R111 begins one. The half cycles are at most W, and more of those that
the ring holds would need more blocks than the maximum (R111, R117 step 1). -/
def State.StoresPre (t : State) (c : Capture) : Prop :=
  (∃ es, es <:+ t.ce.ring ∧
    ((∃ e ∈ t.ce.ring, e.opens = true) →
      (∃ e, es.head? = some e ∧ e.opens = true) ∧ (es.filter (·.opens)).length = c.preHeld + 1) ∧
    ((∀ e ∈ t.ce.ring, e.opens = false) → es = t.ce.ring ∧ c.preHeld = 0) ∧
    (c.blocks.map (fun n => (t.ce.block n).entries)).flatten = es.map (·.samples) ∧
    (c.blocks.map (fun n => (t.ce.block n).times)).flatten = es.map (·.time)) ∧
  (∀ n ∈ c.blocks, (t.ce.block n).kind = .pre ∧ (t.ce.block n).spacing = 1 ∧
    1 ≤ (t.ce.block n).entries.length ∧ (t.ce.block n).entries.length ≤ 256) ∧
  (∀ (i m n : Nat), c.blocks[i]? = some m → c.blocks[i + 1]? = some n → (t.ce.block m).entries.length = 256 ∨
    (t.ce.block n).first ≠ (t.ce.block m).first.plus (t.ce.block m).entries.length) ∧
  c.preHeld ≤ t.ce.settings.pre ∧ (0 < c.preHeld → c.blocks.length ≤ t.ce.settings.maxBlocks) ∧
  ∀ w, c.preHeld < w → w ≤ t.ce.settings.pre → w < (t.ce.ring.filter (·.opens)).length →
    t.ce.settings.maxBlocks < (blockRuns (t.ce.preEntries w)).length

/-- A capture has started on the way from s to t: its entry c is the newest, FILLING, with the next ident where no entry
held it, the evaluated channels present and no flag; it has its blocks and its PRE span; and the fill state begins a FULL
span with the next frame record, with the settings' F, T and D (R112, R114, R117). -/
def State.Starts (s t : State) (c : Capture) : Prop :=
  s.TakesBlocks t c ∧ t.StoresPre c ∧ c.state = .filling ∧ c.truncated = false ∧ c.joinedFlag = false ∧
  (∀ x : Channel, c.channels.get x = s.cc.present x) ∧
  ((∀ e ∈ s.ce.directory, e.ident ≠ s.ce.nextIdent) → c.ident = s.ce.nextIdent) ∧
  t.ce.nextIdent = (if c.ident < 65535 then c.ident + 1 else 1) ∧
  t.ce.fill = some { kind := .full, boundariesLeft := s.ce.settings.full, offset := 0, fresh := true,
                     full := s.ce.settings.full, thin := s.ce.settings.thin, factor := s.ce.settings.factor,
                     post := none, manualLeft := (match c.origin with
                       | .event => none
                       | .manual => some s.ce.settings.manual) }

/-! ## Boundaries and events -/

/-- Every watched detector is NORMAL (R71). -/
def State.WatchedNormal (s : State) : Prop := ∀ p : Phase, s.watched p = true → s.et.detectors.get p = .normal

/-- Some channel is watched, and every watched detector is INTR (R70). -/
def State.WatchedIntr (s : State) : Prop :=
  (∃ p : Phase, s.watched p = true) ∧ ∀ p : Phase, s.watched p = true → s.et.detectors.get p = .intr

/-- After a boundary: the channel is watched, its detector meets a condition, and the boundary delivered this refreshed
RMS of it (R64, R69). -/
def State.Gave (t : State) (c : Detector → Bool) (p : Phase) (r : Nat) : Prop :=
  t.watched p = true ∧ c (t.et.detectors.get p) = true ∧ ∃ x, t.re.refreshed.get p = some x ∧ x.value = r

/-- y is the dip extreme x with a boundary's values taken into it: only a strictly lower value replaces it (R69). -/
def LowestOf (x y : Option Extreme) (gave : Phase → Nat → Prop) : Prop :=
  (∀ p r, gave p r → ∃ e, y = some e ∧ e.value ≤ r) ∧
  (∀ e, x = some e → (∀ p r, gave p r → e.value ≤ r) → y = some e) ∧
  ∀ e, y = some e → x = some e ∨ (gave e.phase e.value ∧ ∀ o, x = some o → e.value < o.value)

/-- y is the swell extreme x with a boundary's values taken into it: only a strictly higher value replaces it (R69). -/
def HighestOf (x y : Option Extreme) (gave : Phase → Nat → Prop) : Prop :=
  (∀ p r, gave p r → ∃ e, y = some e ∧ r ≤ e.value) ∧
  (∀ e, x = some e → (∀ p r, gave p r → r ≤ e.value) → y = some e) ∧
  ∀ e, y = some e → x = some e ∨ (gave e.phase e.value ∧ ∀ o, x = some o → o.value < e.value)

/-- y is the context x with a tested boundary taken into it: involvement, seen marks and extremes (R69). -/
def EventContext.Takes (x y : EventContext) (t : State) : Prop :=
  (∀ p : Phase, y.involved.get p = (x.involved.get p || (t.watched p && t.et.detectors.get p != .normal))) ∧
  (y.dipSeen = true ↔ x.dipSeen = true ∨ ∃ p r, t.Gave Detector.low p r) ∧
  (y.swellSeen = true ↔ x.swellSeen = true ∨ ∃ p r, t.Gave (fun d => d == .swell) p r) ∧
  LowestOf x.dip y.dip (t.Gave Detector.low) ∧ HighestOf x.swell y.swell (t.Gave (fun d => d == .swell))

/-- A running duration after one advance: a tick more, below its ceiling (R66, R67). -/
def durationAfter (n : Nat) : Nat := if n < 54975581388799 then n + 1 else n

/-- The running duration of an open event at a boundary frame `lag` frames before the deciding one, from the event before
the deciding frame is taken: the ticks counted up to the boundary frame, at most the ceiling (R66, R67, R71). -/
def EventContext.durationAt (x : EventContext) (lag : Nat) : Nat := min 54975581388799 (x.running + x.overrun + 1 - lag)

/-- n is the matrix m with one event counted in the cells of its placement, and in their lost-detail counts where its
record is not stored (R90). -/
def ClassMatrix.Counted (m n : ClassMatrix) (p : Placement) (stored : Bool) : Prop :=
  n.bounds = m.bounds ∧ ∀ i : Fin 40, n.cells[i] =
    (if i.val = p.cell ∨ p.second = some i.val then
      { m.cells[i] with count := if m.cells[i].count < 65535 then m.cells[i].count + 1 else m.cells[i].count,
                        lost := if stored = false ∧ m.cells[i].lost < 65535 then m.cells[i].lost + 1
                          else m.cells[i].lost }
    else m.cells[i])

/-- The record of an event is complete: CLOSED, with its duration, its kind and its class (R99). -/
def EventRecord.Completed (r : EventRecord) (duration : Nat) (kind : SupplyKind) (code : Nat) (p : Placement) : Prop :=
  r.closed = true ∧ r.duration = some (DeviceTime.ofTicks duration) ∧ r.supplyKind = some kind ∧
  r.classCell = some (code, p.cell) ∧ r.swellCell = p.second

/-- The filling of c is over at a boundary: no capture fills, and every entry of its ident is SETTLED (R121). -/
def State.FillingOver (t : State) (c : Capture) : Prop :=
  t.ce.fill = none ∧ ∀ e ∈ t.ce.directory, e.ident = c.ident → e.state = .settled

/-- A SUPPLY event opens at the boundary, with the next ident, and the newest entry is the capture that fills for it
(R115, R117). -/
def State.OpensCapture (s t : State) : Prop :=
  s.et.supplyOpen = false ∧ ∃ v e, t.et.context = some v ∧ v.kind = .supply ∧ v.ident = s.er.nextIdent ∧
    t.ce.directory.getLast? = some e ∧ e.state = .filling ∧ e.origin = .event ∧ e.joined = [v.ident]

/-- The capture c is discarded at the boundary: it was UNDECIDED, of origin EVENT, a SUPPLY event joined to it closes
there, and its entry is gone (R124). -/
def State.Discards (s t : State) (c : Capture) : Prop :=
  t.ce.fill = none ∧ c.origin = .event ∧ c.decision = .undecided ∧ (∀ e ∈ t.ce.directory, e.ident ≠ c.ident) ∧
  t.et.context = none ∧ ∃ v, s.et.context = some v ∧ v.kind = .supply ∧ v.ident ∈ c.joined

/-- Under the row c no command word reaches the Command Unit, and power is not cycled: c is no message row, no return
frame, and not power-on. -/
def BringsNoCommand (c : Instr) : Prop :=
  messageCode c = none ∧ c ≠ .powerOn ∧ ∀ w0 w1, c ≠ .returnFrame w0 w1

/-- Everything that the meter controller writes is as it was: the link timeout; every slot's role, annotation mode and
peak threshold, and the whole entry where no pair is pending; M; both threshold sets and WRITE SET; the class bounds,
codes and actions; the retention lock and the watermark; the capture and observation settings; the time-unset flag; the
wake settings; the report levels and push enables; the notice enables. -/
def State.sameSettings (s t : State) : Prop :=
  t.fl.linkTimeout = s.fl.linkTimeout ∧
  (∀ i : Fin 8, t.cc.table[i].role = s.cc.table[i].role ∧ t.cc.table[i].annotation = s.cc.table[i].annotation ∧
    t.cc.table[i].peak = s.cc.table[i].peak ∧ (s.cc.table[i].awaiting = none → t.cc.table[i] = s.cc.table[i])) ∧
  t.ct.cycles = s.ct.cycles ∧ t.ps.setA = s.ps.setA ∧ t.ps.setB = s.ps.setB ∧ t.ps.write = s.ps.write ∧
  t.cm.bounds = s.cm.bounds ∧
  (∀ i : Fin 40, t.cm.cells[i].code = s.cm.cells[i].code ∧ t.cm.cells[i].action = s.cm.cells[i].action) ∧
  t.er.locked = s.er.locked ∧ t.er.watermark = s.er.watermark ∧ t.ce.settings = s.ce.settings ∧
  t.iu.length = s.iu.length ∧ t.iu.period = s.iu.period ∧ t.iu.allowance = s.iu.allowance ∧
  t.iu.coverage = s.iu.coverage ∧ t.tb.unset = s.tb.unset ∧ t.tb.wakeTimer = s.tb.wakeTimer ∧
  t.tb.inboundWake = s.tb.inboundWake ∧ t.ra.levels = s.ra.levels ∧ t.ra.eventPushOn = s.ra.eventPushOn ∧
  t.ra.intervalPushOn = s.ra.intervalPushOn ∧ t.nu.enables = s.nu.enables

/-! ## Laws of the manual -/

/-- Each of the roles L1, L2, L3 and NE is held by at most one slot (R2). -/
def State.RolesOnce (s : State) : Prop :=
  ∀ i j : Fin 8, s.cc.table[i].role = s.cc.table[j].role → s.cc.table[i].role ≠ .pass → i = j

/-- Both threshold sets satisfy the chain of R53 and hold a non-empty mask. -/
def State.SetsOrdered (s : State) : Prop := s.ps.setA.ordered = true ∧ s.ps.setB.ordered = true

/-- The levels in force are those of the active set's content, since that set is never written (R54, R59). -/
def State.LevelsDerived (s : State) : Prop :=
  s.ps.levels = setLevels s.ps.activeSet ∧ s.ps.neLevel = setNeLevel s.ps.activeSet

/-- A pending switch's target is the set that ACTIVE SET does not name (R50). -/
def State.SwitchToOther (s : State) : Prop := s.ps.switchTo ≠ some s.ps.active

/-- In every class cell the lost-detail count is at most the count, and the count at most 65,535 (R90). -/
def State.CountsHeld (s : State) : Prop :=
  ∀ i : Fin 40, s.cm.cells[i].lost ≤ s.cm.cells[i].count ∧ s.cm.cells[i].count ≤ 65535

/-- The bounded stores and lists hold no more than the manual's figures (R108, R139, R143, R183, R188). -/
def State.Bounded (s : State) : Prop :=
  s.ce.ring.length ≤ 1144 ∧ s.iu.log.length ≤ 1008 ∧ s.iu.summaries.length ≤ 4 ∧ s.ra.responses.length ≤ 8 ∧
  s.ra.eventPushes.length ≤ 16 ∧ s.ra.intervalPushes.length ≤ 4

/-- The source is FRAME while the lane is ALIGNED and LOCAL otherwise; in standby the lane is LOST; a wake countdown is
present only in standby (R169, R174, R176). -/
def State.LinkLaw (s : State) : Prop :=
  (s.tb.source = .frame ↔ s.fl.lane = .aligned) ∧ (s.tb.power = .standby → s.fl.lane = .lost) ∧
  (s.tb.power = .run → s.tb.countdown = none)

/-- The link timeout is at least 32, and while the lane is ALIGNED the timeout reference is no older than the silence
count, which is below 16, so that timeout passed stays clear (R154). -/
def State.ReferenceFresh (s : State) : Prop :=
  32 ≤ s.fl.linkTimeout ∧
  (s.fl.lane = .aligned → s.fl.timeoutPassed = false ∧ s.fl.sinceReference ≤ s.fl.silence ∧ s.fl.silence < 16)

/-- Device time is a number of seconds and a tick within second (R167). -/
def DeviceTime.InRange (t : DeviceTime) : Prop := t.sec ≤ 4294967295 ∧ t.tick < 12800

/-- Device time lies in its range (R167). -/
def State.TimeInRange (s : State) : Prop := s.tb.now.InRange

/-- Every Channel Table entry lies in the ranges of R1. -/
def ChannelEntry.InRange (e : ChannelEntry) : Prop :=
  1 ≤ e.gain ∧ e.gain ≤ 1048575 ∧ -1048576 ≤ e.offset ∧ e.offset ≤ 1048575 ∧ 1 ≤ e.peak ∧ e.peak ≤ 255 ∧
  ∀ p, e.awaiting = some p → 1 ≤ p.gain ∧ p.gain ≤ 1048575 ∧ -1048576 ≤ p.offset ∧ p.offset ≤ 1048575

/-- The Channel Table lies in the ranges of R1. -/
def State.TableInRange (s : State) : Prop := ∀ i : Fin 8, s.cc.table[i].InRange

/-- In STOPPED no event is open and every detector is NORMAL (R10). -/
def State.StoppedQuiet (s : State) : Prop :=
  s.cc.measurement = .stopped → s.et.context = none ∧ s.et.detectors = ⟨.normal, .normal, .normal⟩

/-- The numbers of the blocks on the free list and in the directory entries. -/
def State.allBlocks (s : State) : List Nat := s.ce.free ++ (s.ce.directory.map (·.blocks)).flatten

/-- Each of the 128 capture blocks is on the free list or in the block list of exactly one directory entry; the
directory holds at most 16 entries, no two of one ident (R110, R112). -/
def State.BlocksOnce (s : State) : Prop :=
  s.allBlocks.Perm (List.range 128) ∧ s.ce.directory.length ≤ 16 ∧ (s.ce.directory.map (·.ident)).Nodup

/-- The observation counters of each phase channel sum to the number of intervals closed in the period (R143). -/
def CategoryCounts.total (c : CategoryCounts) : Nat :=
  c.excluded + c.noData + c.flagged + c.low + c.high + c.inBand

/-- For each phase channel the six category counts sum to the intervals closed in the period (R143). -/
def State.CountersSum (s : State) : Prop := ∀ p : Phase, (s.iu.counters.get p).total = s.iu.periodClosed

/-- While the retention lock is set, a step takes no record out of the Event Register, lowers no class count, and
keeps the lock (R102). -/
def keepsRecords (s t : State) : Prop :=
  t.er.locked = true ∧ (∀ r ∈ s.er.records, ∃ q ∈ t.er.records, q.ident = r.ident) ∧
  ∀ i : Fin 40, s.cm.cells[i].count ≤ t.cm.cells[i].count ∧ s.cm.cells[i].lost ≤ t.cm.cells[i].lost

end Sys2Proof.Machine
end

