-- ==== Sys2Proof/WellFormed.lean ====
section
/-! DEFINITION. WellFormed.lean: which terms of Instr stand for something that can arrive. A check refuses a term that
no lane can carry: more inbound words than one frame, a command code that does have a command under UNKNOWN_COMMAND,
a payload of more than 60 words (R182). `exec` itself gives every term a meaning. -/

namespace Sys2Proof

/-- 1 where an optional field is present: the field words it adds. -/
def fieldCount {α : Type} : Option α → Nat
  | some _ => 1
  | none => 0

/-- The payload words of a SET CLASSES message: one per narrow field, three per wide field (R179). -/
def ClassFields.payloadWords (f : ClassFields) : Nat :=
  fieldCount f.b1 + fieldCount f.b2 + fieldCount f.b3 + fieldCount f.b4 +
  fieldCount f.s1 + fieldCount f.s2 +
  3 * (fieldCount f.d1 + fieldCount f.d2 + fieldCount f.d3 + fieldCount f.d4) +
  (f.cells.map (fun c => 1 + fieldCount c.code + fieldCount c.action)).sum

/-- A payload holds 0 to 60 words (R179, R182). -/
def payloadFits (n : Nat) : Bool := decide (n ≤ 60)

/-- A command code that names no command for target RECORDER: 0 and 34 to 127 (section 11.3). -/
def unknownCode (code : BitVec 7) : Bool := code.toNat == 0 || decide (34 ≤ code.toNat)

/-- The step is one that can arrive. -/
def Instr.wellFormed : Instr → Bool
  | .badInboundFrame ws => decide (1 ≤ ws.length) && decide (ws.length ≤ 11)
  | .unknownCommand c => unknownCode c
  | .frontEndRelay _ p => payloadFits p.length
  | .setClasses f => payloadFits f.payloadWords
  | .powerOn => true
  | .localOscillatorTick => true
  | .goodInboundFrame _ => true
  | .checkCountReachesFour _ => true
  | .silenceCountExpiry => true
  | .linkTimeoutExpiry => true
  | .forcedBoundary _ => true
  | .segmentEnd _ => true
  | .captureSpanEnd _ => true
  | .postTriggerCountEnd _ => true
  | .manualCaptureEnd _ => true
  | .intervalEnd _ => true
  | .closingIntervalTimeout _ => true
  | .observationPeriodEnd _ => true
  | .wakeOnActivity _ => true
  | .wakeTimerExpiry => true
  | .returnFrame _ _ => true
  | .relayComplete => true
  | .start _ => true
  | .stop => true
  | .clearRecords => true
  | .clearRecordsComplete => true
  | .setChannel _ _ => true
  | .getChannel _ => true
  | .setProfile _ _ => true
  | .getProfile _ => true
  | .selectWriteSet _ => true
  | .switchProfile _ => true
  | .getClasses _ => true
  | .clearCounts => true
  | .readEvents _ => true
  | .releaseEvents _ => true
  | .retain => true
  | .setCapture _ => true
  | .trigger => true
  | .listCaptures => true
  | .readCapture _ _ => true
  | .releaseCapture _ => true
  | .readIntervals _ => true
  | .setObservation _ => true
  | .readSummaries => true
  | .setTime _ => true
  | .getTime => true
  | .setWake _ => true
  | .standby => true
  | .setLink _ => true
  | .setReports _ => true
  | .setNotices _ => true
  | .ackNotices _ => true
  | .getStatus => true
  | .identify => true
  | .responsePlaced _ => true
  | .streamItemSent _ => true
  | .endMessageSent _ => true
  | .eventPushSent _ => true
  | .noticeSent _ => true
  | .readoutEnd _ => true

end Sys2Proof
end

