-- ==== Sys2Proof/Certificates/Slice0/Obligations.lean ====
section
/-! DEFINITION. Certificates/Slice0/Obligations.lean: the statements for the provers. A statement that gives the whole
next state gives its frame with it: every item not named is as it was. `s.begin` is s with the outputs of the step
before taken away (assumption 3). -/

open Sys2Proof Sys2Proof.Machine

/-! ## The queue and the arrivals -/

/-- A step takes the command at the front of the queue and is its meaning on the state with the queue's rest; on an
empty queue the block idles (the model's own queue, assumption 7). -/
def Obligations.StepRunsFrontOfQueue : Prop :=
  (∀ (c : Instr) (rest : List Instr) (s : State), s.pending = c :: rest → step s = exec c (s.withPending rest)) ∧
  (∀ s : State, s.pending = [] → step s = .next s)

/-- Power-on leaves the power-on values, whatever went before: of the Channel Table and measurement (R1, R10), the Cycle
Tracker (R17), the RMS Engine (R33), both threshold sets with the levels derived from them (R49, R50, R44), the Event
Tracker (R63, R66), the Class Matrix (R87), the Event Register (R95), the Capture Engine with its settings (R107, R109),
the Interval Unit with the open interval, the counters and the lists (R131), the Frame Link Unit (R150), the Timebase
(R167), and the Command Unit, the Report Arbiter with its push lists and the Notice Unit (R182, R187, R190). The queue of
commands is the model's own and stays (assumption 12). -/
def Obligations.PowerOnResetsEveryBlock : Prop :=
  ∀ s : State, ∃ t, exec .powerOn s = .next t ∧ t.pending = s.pending ∧
    (∀ i : Fin 8, t.cc.table[i] = { role := .pass, gain := 65536, offset := 0, annotation := .plain, peak := 227,
                                    awaiting := none }) ∧
    t.cc.measurement = .stopped ∧ t.fl.lane = .hunt ∧ t.fl.linkTimeout = 1280 ∧ t.fl.outSeq = 0 ∧
    t.fl.lastSeq = none ∧ t.fl.lastFrame = none ∧ t.fl.silence = 0 ∧ t.fl.timeoutPassed = false ∧ t.fl.relay = [] ∧
    t.ct.lastGood = 128 ∧ t.ct.cycles = 10 ∧ t.ct.state = .acquire ∧ t.ct.reference = none ∧ t.ct.polarity = none ∧
    t.ct.candidate = .absent ∧ t.ct.position = 0 ∧ t.ct.early = false ∧ t.ct.acceptedRun = 0 ∧
    t.ct.segmentCount = none ∧ t.re.previous = none ∧ t.re.segment = none ∧ t.re.late = [] ∧ t.re.earlyCount = 0 ∧
    (∀ p : Phase, t.re.refreshed.get p = none) ∧
    t.ps.active = .a ∧ t.ps.write = .b ∧ t.ps.switchTo = none ∧ t.ps.setA = t.ps.setB ∧
    t.ps.setA.nominal = .hz50 ∧ t.ps.setA.neLimit = 50 ∧ t.ps.setA.bandLow = 900 ∧ t.ps.setA.bandHigh = 1100 ∧
    (∀ p : Phase, t.ps.setA.mask.get p = true ∧
      t.ps.setA.phase.get p = { unom := 23000, intStart := 50, intEnd := 70, dipStart := 900, dipEnd := 920,
                                swellEnd := 1080, swellStart := 1100 } ∧
      t.ps.levels.get p = { dipStart := 20700, dipEnd := 21160, intStart := 1150, intEnd := 1610, swellStart := 25300,
                            swellEnd := 24840, bandLow := 20700, bandHigh := 25300 }) ∧
    t.ps.neLevel = 1150 ∧
    t.cm.bounds = { b1 := 800, b2 := 700, b3 := 400, b4 := 50, s1 := 1200, s2 := 1400, d1 := 200, d2 := 500, d3 := 5000,
                    d4 := 60000 } ∧
    (∀ i : Fin 40, t.cm.cells[i] = { code := i.val, action := if 20 ≤ i.val ∧ i.val ≤ 24 then .priority else .normal,
                                     count := 0, lost := 0 }) ∧
    t.et.context = none ∧ t.et.detectors = ⟨.normal, .normal, .normal⟩ ∧
    t.er.records = [] ∧ t.er.nextIdent = 1 ∧ t.er.ceilingTaken = false ∧ t.er.locked = false ∧ t.er.watermark = 448 ∧
    t.ce.ring = [] ∧ t.ce.completeHalves = 0 ∧ t.ce.ready = false ∧ t.ce.free = List.range 128 ∧ t.ce.directory = [] ∧
    t.ce.nextIdent = 1 ∧ t.ce.fill = none ∧
    t.ce.settings = { pre := 4, full := 4, thin := 16, factor := 16, post := 8, manual := 64, maxBlocks := 32,
                      mode := .auto } ∧
    t.iu.current.index = 0 ∧ t.iu.current.start = ⟨0, 0⟩ ∧ t.iu.current.endSec = 600 ∧ t.iu.current.length = 600 ∧
    t.iu.current.span = 0 ∧ (∀ c : Channel, t.iu.current.totals.get c = ⟨0, 0, 0, 0⟩) ∧ t.iu.current.freqCount = 0 ∧
    t.iu.current.patched = 0 ∧ t.iu.current.clipped = 0 ∧ t.iu.current.breaks = 0 ∧
    (∀ f : IntervalFlag, t.iu.current.has f = true ↔ f = .timeLocal ∨ f = .timeUnset) ∧ t.iu.closing = none ∧
    t.iu.eventMark = false ∧ t.iu.log = [] ∧ (∀ p : Phase, t.iu.counters.get p = ⟨0, 0, 0, 0, 0, 0⟩) ∧
    t.iu.periodClosed = 0 ∧ t.iu.firstIndex = none ∧ t.iu.summaries = [] ∧
    t.iu.length = 600 ∧ t.iu.period = 1008 ∧ t.iu.allowance = 50 ∧ t.iu.coverage = 900 ∧
    t.tb.now = ⟨0, 0⟩ ∧ t.tb.source = .localOsc ∧ t.tb.unset = true ∧ t.tb.power = .run ∧ t.tb.inboundWake = true ∧
    t.tb.lastLoss = none ∧ t.tb.wakeTimer = 0 ∧ t.tb.countdown = none ∧ t.tb.lastWake = none ∧
    t.cu.state = .idle ∧ t.cu.buffer = [] ∧ t.cu.waiting = none ∧ t.cu.stream = none ∧ t.ra.responses = [] ∧
    t.ra.blockQueue = [] ∧ t.ra.eventPushes = [] ∧ t.ra.intervalPushes = [] ∧ t.ra.levels = ⟨3, 2, 1, 1, 0⟩ ∧
    t.ra.eventPushOn = true ∧ t.ra.intervalPushOn = true ∧ t.ra.sending = none ∧
    t.nu.requests = 0 ∧ t.nu.enables = 0 ∧ t.nu.queued = false

/-- A local tick while the lane is HUNT or LOST on LOCAL time: device time advances once and one paced frame is sent,
with zero samples, DATA and SUBST clear and TIME_LOCAL set, under the next outbound sequence number (R160, R161, R168).
-/
def Obligations.SearchingTickPacesOneFrame : Prop :=
  ∀ s : State, s.Searching → s.tb.source = .localOsc →
    ∃ t f, exec .localOscillatorTick s = .next t ∧ t.out.outbound = [f] ∧
      f.data = false ∧ f.subst = false ∧ f.timeLocal = true ∧ f.samples = Vector.replicate 8 0 ∧ f.overload = 0 ∧
      f.aux = 0 ∧ f.seq = s.fl.outSeq ∧ t.fl.outSeq = s.fl.outSeq + 1 ∧ t.tb.now = s.tb.now.next ∧
      t.cc = s.cc ∧ t.ct = s.ct ∧ t.re = s.re ∧ t.ps = s.ps

/-- A good frame in HUNT or LOST enters CHECK: count 1, its sequence number and content the last good ones, LINK_CHANGED
raised; it is forwarded as received with DATA clear; no tick passes and measurement stays (R155, R156, R160). -/
def Obligations.GoodFrameEntersCheck : Prop :=
  ∀ (s : State) (f : InboundFrame), s.Searching →
    ∃ t o, exec (.goodInboundFrame f) s = .next t ∧ t.out.outbound = [o] ∧
      o.data = false ∧ o.subst = false ∧ o.samples = f.samples ∧ o.overload = f.overload ∧ o.aux = f.aux ∧
      o.seq = s.fl.outSeq ∧ t.fl.lane = .check ∧ t.fl.checkCount = 1 ∧ t.fl.silence = 0 ∧
      t.fl.lastSeq = some f.seq ∧ t.fl.lastFrame = some ⟨f.samples, f.overload⟩ ∧
      t.fl.sinceReference = s.fl.sinceReference ∧ t.requested .linkChanged ∧
      t.tb = s.tb ∧ t.cc = s.cc ∧ t.ct = s.ct ∧ t.re = s.re ∧ t.ps = s.ps ∧ t.cm = s.cm ∧ t.iu = s.iu

/-- A consecutive good frame in ALIGNED is taken: device time advances once, the frame is forwarded with DATA, its
overload flags and auxiliary word as taken and its samples changed at most in the least significant bit; it becomes the
last good one and the silence count and timeout reference return to 0 (R157, R160). Where the frame decides a boundary
that delivers refreshed values, every watched detector is tested with its channel's value and the levels in force (R64,
R65), and the events follow: an open GAP event closes (R81); a SUPPLY event opens with the next ident at the device time
of the boundary frame when some watched detector is not NORMAL (R68); an open one takes the boundary's values into its
context and its interruption stretch (R69, R70), or closes when every watched detector is NORMAL, being counted in the
cells of its placement, and its stored record completed (R71, R74, R89, R90). The running duration at a boundary frame
is that of the ticks counted up to it, at most the ceiling, where the ceiling was reached after it too (assumption 41).
While STARTING or RUNNING a frame that decides no boundary is scaled like any other: its squares, clipped marks and
substituted mark enter the early sums below position 98 and the late list from there on (R8, R9, R34), the position
moves on by one, the frame and its device time are kept from position 98 on, and the ring takes its entry, the oldest
leaving a full one (R108). The tracker's state, the segment, the detectors, an open event but for its running duration,
the measurement state, the table, the Profile Store and the Class Matrix stay; where besides no capture fills and no
message ends, so do the rest of the Capture Engine and the Event Register. -/
def Obligations.ConsecutiveFrameIsTaken : Prop :=
  (∀ (s : State) (f : InboundFrame), s.Aligned → s.Consecutive f →
    ∃ t o, exec (.goodInboundFrame f) s = .next t ∧ t.out.outbound = [o] ∧
      o.data = true ∧ o.subst = false ∧ o.overload = f.overload ∧ o.aux = f.aux ∧
      (∀ i : Fin 8, o.samples[i] >>> 1 = f.samples[i] >>> 1) ∧ t.tb.now = s.tb.now.next ∧
      t.fl.lane = .aligned ∧ t.fl.lastSeq = some f.seq ∧ t.fl.lastFrame = some ⟨f.samples, f.overload⟩ ∧
      t.fl.silence = 0 ∧ t.fl.sinceReference = 0) ∧
  (∀ (s : State) (f : InboundFrame) (d : Decision), s.Aligned → s.Consecutive f → s.Measuring → s.decides f = some d →
    s.re.previous.isSome = true →
    ∃ t, exec (.goodInboundFrame f) s = .next t ∧
      (∀ p, t.watched p = true → ∃ r, t.re.refreshed.get p = some r ∧
        t.et.detectors.get p = (s.et.detectors.get p).test (t.ps.levels.get p) r.value) ∧
      (∀ g, s.et.context = some g → g.kind = .gap → t.requested .eventClosed ∧
        (g.stored = true → t.WatchedNormal → ∀ r ∈ t.er.records, r.ident = g.ident →
          r.closed = true ∧ r.duration = some (DeviceTime.ofTicks (g.durationAt d.lag)))) ∧
      (s.et.supplyOpen = false → t.WatchedNormal → t.et.context = none ∧ t.cm = s.cm) ∧
      (s.et.supplyOpen = false → ¬t.WatchedNormal →
        ∃ x, t.et.context = some x ∧ x.kind = .supply ∧ x.ident = s.er.nextIdent ∧
          x.start = (s.ct.stamp s.tb.now.next).timeAt d.frame ∧ x.running = d.lag ∧
          EventContext.Takes (s.newContext .supply x.start d.lag) x t ∧
          (t.WatchedIntr → x.stretch = some 0) ∧ (¬t.WatchedIntr → x.stretch = none) ∧
          (x.stored = true → ∃ r ∈ t.er.records, r.ident = x.ident ∧ r.closed = false ∧ r.start = x.start) ∧
          (s.er.nextIdent < 4294967295 → t.er.nextIdent = s.er.nextIdent + 1) ∧ t.requested .eventOpened ∧
          t.cm = s.cm) ∧
      ∀ x, s.et.context = some x → x.kind = .supply →
        (¬t.WatchedNormal → ∃ y, t.et.context = some y ∧ y.kind = .supply ∧ y.ident = x.ident ∧ y.start = x.start ∧
          y.stored = x.stored ∧ x.Takes y t ∧
          (t.WatchedIntr → y.stretch = some (x.stretch.getD (x.durationAt d.lag))) ∧
          (¬t.WatchedIntr → y.stretch = none) ∧ t.er.nextIdent = s.er.nextIdent ∧ t.cm = s.cm) ∧
        (t.WatchedNormal → t.et.context = none ∧ t.requested .eventClosed ∧ t.er.nextIdent = s.er.nextIdent ∧
          ∀ q, q = placeEvent s.cm.bounds t.ps.unoms x.supplyKind (x.finish t.watchedSet).dip x.swell
              (x.durationAt d.lag) →
            s.cm.Counted t.cm q x.stored ∧
            (x.stored = true → ∀ r ∈ t.er.records, r.ident = x.ident →
              r.Completed (x.durationAt d.lag) x.supplyKind (s.cm.cell q.cell).code q))) ∧
  ∀ (s : State) (f : InboundFrame), s.Aligned → s.Consecutive f → s.Measuring → s.decides f = none →
    ∃ t, exec (.goodInboundFrame f) s = .next t ∧
      s.re.Accumulates t.re s.ct.position (s.cc.entryOf (frameContent f) false) ∧
      t.cc = { s.cc with kept := if 98 ≤ s.ct.position then s.cc.kept ++ [⟨frameContent f, s.tb.now.next⟩]
        else s.cc.kept } ∧
      t.ct.lateTimes = (if 98 ≤ s.ct.position then s.ct.lateTimes ++ [s.tb.now.next] else s.ct.lateTimes) ∧
      t.ct.position = s.ct.position + 1 ∧ t.ct.state = s.ct.state ∧ t.ct.reference = s.ct.reference ∧
      t.ct.acceptedRun = s.ct.acceptedRun ∧ t.ct.lastGood = s.ct.lastGood ∧ t.ct.segmentCount = s.ct.segmentCount ∧
      t.ct.segmentFrames = s.ct.segmentFrames ∧ t.ct.segmentAccepted = s.ct.segmentAccepted ∧
      t.ct.cycles = s.ct.cycles ∧ t.ce.ring = s.ringWith f ∧ t.ce.completeHalves = s.ce.completeHalves ∧
      t.ce.ready = s.ce.ready ∧ t.ce.settings = s.ce.settings ∧ t.et.detectors = s.et.detectors ∧
      (s.et.context = none → t.et.context = none) ∧
      (∀ x, s.et.context = some x → ∃ y, t.et.context = some y ∧ y = { x with
        running := durationAfter x.running, overrun := y.overrun, flags := y.flags, capture := y.capture }) ∧
      t.ps = s.ps ∧ t.cm = s.cm ∧ t.er.nextIdent = s.er.nextIdent ∧
      t.er.records.map (fun r => { r with flags := 0, capture := none }) =
        s.er.records.map (fun r => { r with flags := 0, capture := none }) ∧
      t.iu.eventMark = s.iu.eventMark ∧
      (s.tb.now.next ≠ s.tb.now → s.tb.now.next ≠ ⟨s.iu.current.endSec, 0⟩ → s.iu.closing = none →
        t.iu = { s.iu with current := { s.iu.current with span := s.iu.current.span + 1 } }) ∧
      (s.ce.fill = none → s.Midway → t.ce = { s.ce with ring := s.ringWith f } ∧ t.er = s.er ∧
        ∀ x y, s.et.context = some x → t.et.context = some y → y.flags = x.flags ∧ y.capture = x.capture)

/-- A gap of d − 1 frames in ALIGNED is patched: d frames are forwarded, all with DATA and all but the last with SUBST
and a zero auxiliary word, and device time advances d ticks (R157, R158). -/
def Obligations.GapIsPatched : Prop :=
  ∀ (s : State) (f : InboundFrame) (last : BitVec 4) (c : FrameContent), s.Aligned → s.fl.lastSeq = some last →
    s.fl.lastFrame = some c → 2 ≤ (f.seq - last).toNat →
    ∃ t, exec (.goodInboundFrame f) s = .next t ∧ t.out.outbound.length = (f.seq - last).toNat ∧
      (∀ o ∈ t.out.outbound, o.data = true) ∧
      (∀ o ∈ t.out.outbound.take ((f.seq - last).toNat - 1),
        o.subst = true ∧ o.aux = 0 ∧ o.overload = c.overload ∧ ∀ i : Fin 8, o.samples[i] >>> 1 = c.samples[i] >>> 1) ∧
      (∀ o ∈ t.out.outbound.drop ((f.seq - last).toNat - 1), o.subst = false ∧ o.aux = f.aux) ∧
      t.tb.now = timeAfter (f.seq - last).toNat s.tb.now ∧ t.fl.lane = .aligned ∧ t.fl.lastSeq = some f.seq

/-- A good frame in ALIGNED that repeats the last sequence number, and the eleven words of a bad frame, are discarded:
nothing changes but the words being grouped — no tick, no outbound frame, silence count and timeout reference not moved
(R157, R159). -/
def Obligations.AlignedLaneDiscards : Prop :=
  (∀ (s : State) (f : InboundFrame), s.tb.power = .run → s.fl.lane = .aligned → s.fl.lastSeq = some f.seq →
    exec (.goodInboundFrame f) s = .next (s.begin.withFl { s.fl with inboundWords := [] })) ∧
  (∀ (s : State) (ws : List (BitVec 32)), s.tb.power = .run → s.fl.lane = .aligned → s.fl.inboundWords = [] →
    ws.length = 11 → inboundGood ws = false → exec (.badInboundFrame ws) s = .next s.begin)

/-- The eleven words of a bad frame in CHECK, and a good frame out of sequence there, end CHECK: the lane goes to HUNT,
or to LOST when timeout passed is set, with LINK_CHANGED raised, and nothing is sent (R155). That the check count is 0
then is the model's reading (assumption 21: the rules give the count in CHECK only). -/
def Obligations.BadFrameEndsCheck : Prop :=
  (∀ (s : State) (ws : List (BitVec 32)), s.tb.power = .run → s.fl.lane = .check → s.fl.inboundWords = [] →
    ws.length = 11 → inboundGood ws = false →
    ∃ t, exec (.badInboundFrame ws) s = .next t ∧
      t.fl.lane = (if s.fl.timeoutPassed then .lost else .hunt) ∧ t.requested .linkChanged ∧ t.out.outbound = [] ∧
      t.tb.now = s.tb.now ∧ t.cc = s.cc ∧ t.ct = s.ct ∧ t.re = s.re ∧ t.ps = s.ps ∧
      (s.fl.timeoutPassed = true → t.tb.lastLoss = some s.tb.now)) ∧
  ∀ (s : State) (f : InboundFrame), s.tb.power = .run → s.fl.lane = .check → ¬s.Consecutive f →
    ∃ t, exec (.goodInboundFrame f) s = .next t ∧
      t.fl.lane = (if s.fl.timeoutPassed then .lost else .hunt) ∧ t.requested .linkChanged ∧ t.out.outbound = [] ∧
      t.fl.checkCount = 0 ∧ t.fl.lastSeq = s.fl.lastSeq ∧ t.fl.lastFrame = s.fl.lastFrame ∧ t.tb.now = s.tb.now ∧
      t.cc = s.cc ∧ t.ct = s.ct ∧ t.re = s.re ∧ t.ps = s.ps ∧
      (s.fl.timeoutPassed = true → t.tb.lastLoss = some s.tb.now)

/-- A word on the return lane in standby, or on the inbound lane with the inbound wake enable on, wakes the part: RUN,
HUNT, no countdown, the cause recorded, LINK_CHANGED and WOKE raised, and every other block as it was (R177). -/
def Obligations.ActivityWakesThePart : Prop :=
  ∀ (s : State) (lane : ActivityLane), s.tb.power = .standby → (lane = .inbound → s.tb.inboundWake = true) →
    ∃ t, exec (.wakeOnActivity lane) s = .next t ∧ t.tb.power = .run ∧ t.tb.countdown = none ∧
      t.tb.lastWake = some (match lane with
        | .inbound => .inboundActivity
        | .returnLane => .returnActivity) ∧
      t.fl.lane = .hunt ∧ t.fl.lastSeq = none ∧ t.fl.lastFrame = none ∧ t.fl.silence = 0 ∧ t.fl.timeoutPassed = false ∧
      t.fl.outSeq = s.fl.outSeq ∧ t.fl.linkTimeout = s.fl.linkTimeout ∧ t.requested .linkChanged ∧ t.requested .woke ∧
      t.tb.now = s.tb.now ∧ t.tb.source = s.tb.source ∧ t.cc = s.cc ∧ t.ct = s.ct ∧ t.re = s.re ∧ t.ps = s.ps ∧
      t.et = s.et ∧ t.cm = s.cm ∧ t.er = s.er ∧ t.ce = s.ce ∧ t.iu = s.iu ∧ t.cu = s.cu ∧ t.ra = s.ra

/-- A good return frame with a header of a command without fields has just the effect of that command's message (R164,
R179, R182). Word 0 with the marker is kept until word 1 (R164). A header with a payload of 1 to 60 words begins assembly,
each payload word joins the buffer, and the last of them executes the message: a RECORDER message whose payload is fields
of its command, each with its value, has just the effect of that command with those fields, the later where one is given
twice; with a code that names no command it is answered UNKNOWN; with a field that the command does not have, or in SET
CLASSES a class code or capture action before any cell entry, INVALID; with a wide field cut off, MALFORMED; the first
fault in payload order decides, and nothing else happens (R179, R181, R182). A FRONT END message's payload goes to the
relay buffer as it is (R165). A payload word outside assembly is discarded (R182). Which of two class codes of one cell
entry counts is assumption 22's. -/
def Obligations.ReturnFrameRunsItsCommand : Prop :=
  (∀ (s : State) (code : BitVec 7) (sel : BitVec 16) (c : Instr), s.tb.power = .run → s.cu.state = .idle →
    s.fl.returnPosition = .word0 → headerCommand code.toNat sel = some c →
    exec (.returnFrame (halves 0x3C98#16 (frameCheck [headerWord false code sel 0])) (some (headerWord false code sel 0)))
      s = exec c s) ∧
  (∀ (s : State) (w : BitVec 32), s.tb.power = .run → s.fl.returnPosition = .word0 → marker w = 0x3C98#16 →
    exec (.returnFrame w none) s = .next (s.begin.withFl { s.fl with returnPosition := .word1 w })) ∧
  (∀ (s : State) (fe : Bool) (code : BitVec 7) (sel : BitVec 16) (n : BitVec 6), s.tb.power = .run →
    s.cu.state = .idle → s.fl.returnPosition = .word0 → 1 ≤ n.toNat → n.toNat ≤ 60 →
    exec (goodReturn (headerWord fe code sel n)) s =
      .next (s.begin.withCu { s.cu with state := .assembling, buffer := [headerWord fe code sel n] })) ∧
  (∀ (s : State) (w : BitVec 32), s.tb.power = .run → s.cu.state ≠ .assembling → s.fl.returnPosition = .word0 →
    w.getLsbD 31 = false → exec (goodReturn w) s = .next s.begin) ∧
  ∀ (s : State) (fe : Bool) (code : BitVec 7) (sel : BitVec 16) (n : BitVec 6) (ws : List (BitVec 32)) (w : BitVec 32),
    s.Assembling fe code sel n ws → w.getLsbD 31 = false →
    (ws.length + 1 < n.toNat →
      exec (goodReturn w) s = .next (s.begin.withCu { s.cu with buffer := s.cu.buffer ++ [w] })) ∧
    (ws.length + 1 = n.toNat → fe = true →
      exec (goodReturn w) s = .next ((s.begin.withFl { s.fl with relay := ws ++ [w] }).withCu
        { s.cu with state := .executing, buffer := [], work := .relaying code.toNat })) ∧
    (ws.length + 1 = n.toNat → fe = false →
      (∀ (fs : List (Nat × BitVec 32)) (c : Instr), FieldsOf code.toNat fs → ws ++ [w] = payloadWords code.toNat fs →
        commandOf code.toNat sel fs = some c → exec (goodReturn w) s = exec c s.unassembled) ∧
      (s.cu.stream = none → s.ra.responses.length < 8 →
        (code.toNat = 0 ∨ 33 < code.toNat →
          exec (goodReturn w) s = .next (s.begin.answered code.toNat .unknown [])) ∧
        ∀ (fs : List (Nat × BitVec 32)) (v : BitVec 32) (rest : List (BitVec 32)) (field : Nat), 1 ≤ code.toNat →
          code.toNat ≤ 33 → FieldsOf code.toNat fs → ws ++ [w] = payloadWords code.toNat fs ++ v :: rest →
          field = (v.extractLsb' 24 7).toNat →
          (field = 0 ∨ (commandFields code.toNat).length < field →
            exec (goodReturn w) s = .next (s.begin.answered code.toNat .invalid [])) ∧
          (code.toNat = 10 → field = 12 ∨ field = 13 → (∀ x ∈ fs, x.1 ≠ 11) →
            exec (goodReturn w) s = .next (s.begin.answered code.toNat .invalid [])) ∧
          (WideField code.toNat field → rest.length < 2 →
            exec (goodReturn w) s = .next (s.begin.answered code.toNat .malformed []))))

/-- A word without the return marker, where word 0 is expected, abandons a message under assembly: MALFORMED with its
command code, placed when there is a place, and the Command Unit IDLE with its buffer empty (R164, R182). In the other
states such a word does nothing. A word 1 that the check held does not fit does the same as both and ends the frame: word
0 is expected again (R164). A header during assembly abandons the message under assembly and is then taken as in IDLE; in
IDLE a header of 61 to 63 words is answered MALFORMED; in EXECUTING and STREAMING a header is answered BUSY with its own
command code; each of these answers is dropped where the source is full (R182, R183). -/
def Obligations.BadReturnFrameAbandonsAssembly : Prop :=
  (∀ (s : State) (w : BitVec 32), s.tb.power = .run → s.cu.state = .assembling → s.fl.returnPosition = .word0 →
    marker w ≠ 0x3C98#16 →
    exec (.returnFrame w none) s = .next ((s.begin.withRa { s.ra with
        responses := s.ra.placedOrDropped (headerCode (s.cu.buffer.getD 0 0)).toNat .malformed }).withCu
          { s.cu with state := .idle, buffer := [] })) ∧
  (∀ (s : State) (w : BitVec 32), s.tb.power = .run → s.cu.state ≠ .assembling → s.fl.returnPosition = .word0 →
    marker w ≠ 0x3C98#16 → exec (.returnFrame w none) s = .next s.begin) ∧
  (∀ (s : State) (held w : BitVec 32), s.tb.power = .run → s.fl.returnPosition = .word1 held →
    lowHalf held ≠ frameCheck [w] →
    (s.cu.state = .assembling →
      exec (.returnFrame w none) s = .next (s.begin.withFl { s.fl with returnPosition := .word0 }).abandoned) ∧
    (s.cu.state ≠ .assembling →
      exec (.returnFrame w none) s = .next (s.begin.withFl { s.fl with returnPosition := .word0 }))) ∧
  ∀ (s : State) (fe : Bool) (code : BitVec 7) (sel : BitVec 16) (n : BitVec 6), s.tb.power = .run →
    s.fl.returnPosition = .word0 →
    (s.cu.state = .assembling →
      exec (goodReturn (headerWord fe code sel n)) s = exec (goodReturn (headerWord fe code sel n)) s.abandoned) ∧
    (s.cu.state = .idle → 61 ≤ n.toNat → exec (goodReturn (headerWord fe code sel n)) s =
      .next (s.begin.withRa { s.ra with responses := s.ra.placedOrDropped code.toNat .malformed })) ∧
    (s.cu.state = .executing ∨ s.cu.state = .streaming → exec (goodReturn (headerWord fe code sel n)) s =
      .next (s.begin.withRa { s.ra with responses := s.ra.placedOrDropped code.toNat .busy }))

/-- Whatever message arrives while the Command Unit is EXECUTING or STREAMING is answered BUSY with its own command
code, or dropped when the response source is full, and nothing else happens (R182, R183). -/
def Obligations.BusyUnitExecutesNoMessage : Prop :=
  ∀ (c : Instr) (code : Nat) (s : State), messageCode c = some code → s.tb.power = .run →
    (s.cu.state = .executing ∨ s.cu.state = .streaming) →
    exec c s = .next (s.begin.withRa { s.ra with responses := s.ra.placedOrDropped code .busy })

/-- A response that finds the response source full waits with the Command Unit EXECUTING: that of IDENTIFY, and that of
every message that answers when it is executed, which is all but an accepted CLEAR RECORDS and a relay with a payload; it
is placed when a single response enters transmission, and the Command Unit leaves EXECUTING (R183). -/
def Obligations.FullSourceHoldsResponses : Prop :=
  (∀ s : State, s.tb.power = .run → s.cu.state = .idle → 8 ≤ s.ra.responses.length →
    exec .identify s = .next (s.begin.withCu { s.cu with
      state := .executing, buffer := [], work := .idle, waiting := some (answerOf 33 .done [27, 441, 2]) })) ∧
  (∀ (c : Instr) (code : Nat) (s : State), messageCode c = some code → s.tb.power = .run → s.cu.state = .idle →
    8 ≤ s.ra.responses.length → (c = .clearRecords → s.cc.measurement ≠ .stopped ∨ s.er.locked = true) →
    (∀ k w ws, c ≠ .frontEndRelay k (w :: ws)) →
    ∃ t x, exec c s = .next t ∧ t.cu.waiting = some x ∧ x.code = code ∧ t.cu.state = .executing ∧
      t.ra.responses = s.ra.responses) ∧
  (∀ (s : State) (a : Arrival) (r x : Response) (rest : List Response), s.Searching → s.ra.sending = none →
    s.ra.responses = r :: rest → r.form = .single → rest.length < 8 → s.cu.waiting = some x →
    (∀ y, s.ra.levels.get y ≤ s.ra.levels.response) →
    ∃ t, exec (.responsePlaced a) s = .next t ∧ t.ra.responses = rest ++ [x] ∧ t.cu.waiting = none ∧
      t.cu.state = (if s.cu.stream.isSome then .streaming else .idle))

/-! ## Rows that an arrival brings about -/

/-- The second and the third consecutive frame of a CHECK: the count, the last good ones and the silence count move, the
timeout reference stays, the frame is forwarded with DATA clear and no tick passes (R154, R155, R160). The fourth: the
lane is ALIGNED, the source FRAME, the reference moved, LINK_CHANGED raised, a due break counted, a suspended measurement
STARTING; the frame is forwarded with DATA clear and no tick passes (R155, R156, R159). -/
def Obligations.FourthFrameAligns : Prop :=
  (∀ (s : State) (f : InboundFrame), s.tb.power = .run → s.fl.lane = .check → s.fl.checkCount < 3 → s.Consecutive f →
    ∃ t o, exec (.goodInboundFrame f) s = .next t ∧ t.out.outbound = [o] ∧ o.data = false ∧ o.subst = false ∧
      o.samples = f.samples ∧ o.overload = f.overload ∧ o.aux = f.aux ∧ o.seq = s.fl.outSeq ∧ t.fl.lane = .check ∧
      t.fl.checkCount = s.fl.checkCount + 1 ∧ t.fl.lastSeq = some f.seq ∧
      t.fl.lastFrame = some ⟨f.samples, f.overload⟩ ∧ t.fl.silence = 0 ∧ t.fl.sinceReference = s.fl.sinceReference ∧
      t.fl.timeoutPassed = s.fl.timeoutPassed ∧
      t.tb = s.tb ∧ t.cc = s.cc ∧ t.ct = s.ct ∧ t.re = s.re ∧ t.ps = s.ps ∧ t.cm = s.cm ∧ t.iu = s.iu) ∧
  ∀ (s : State) (f : InboundFrame), s.tb.power = .run → s.fl.lane = .check → s.fl.checkCount = 3 → s.Consecutive f →
    ∃ t o, exec (.checkCountReachesFour f) s = .next t ∧ t.out.outbound = [o] ∧ o.data = false ∧
      t.fl.lane = .aligned ∧ t.tb.source = .frame ∧ t.tb.now = s.tb.now ∧ t.fl.sinceReference = 0 ∧
      t.fl.timeoutPassed = false ∧ t.requested .linkChanged ∧
      t.iu.current.breaks = (if s.fl.breakDue ∧ s.iu.current.breaks < 65535 then s.iu.current.breaks + 1
        else s.iu.current.breaks) ∧
      t.cc.measurement = (if s.cc.measurement = .suspended then .starting else s.cc.measurement) ∧
      (s.cc.measurement = .suspended →
        t.ct.state = .acquire ∧ t.ct.position = 0 ∧ t.re.previous = none ∧ t.ce.ring = [] ∧ t.ce.ready = false)

/-- Sixteen ticks of silence in ALIGNED: HUNT, the source LOCAL, sixteen ticks of device time at once, measurement out
of STARTING or RUNNING into SUSPENDED, LINK_CHANGED raised (R154, R155, R168, R12). In CHECK: HUNT, or LOST when timeout
passed is set, with LINK_CHANGED raised, and nothing sent at that tick (R154, R155, R160). That the check count is 0 then
is the model's reading (assumption 21), and that the loss is recorded at the time after the tick's advance its order
(assumption 4). -/
def Obligations.SilenceEndsAlignment : Prop :=
  (∀ s : State, s.Aligned → s.tb.source = .frame → s.fl.silence = 15 → s.fl.sinceReference + 1 < s.fl.linkTimeout →
    ∃ t, exec .silenceCountExpiry s = .next t ∧ t.fl.lane = .hunt ∧ t.tb.source = .localOsc ∧
      t.tb.now = timeAfter 16 s.tb.now ∧ t.requested .linkChanged ∧ t.out.outbound = [] ∧
      t.cc.measurement = (match s.cc.measurement with
        | .starting => .suspended
        | .running => .suspended
        | .stopped => .stopped
        | .suspended => .suspended) ∧ t.ps = s.ps ∧ t.cm = s.cm) ∧
  ∀ s : State, s.tb.power = .run → s.tb.countdown = none → s.fl.lane = .check → s.fl.silence = 15 →
    (s.fl.timeoutPassed = true ∨ s.fl.sinceReference + 1 < s.fl.linkTimeout) →
    ∃ t, exec .silenceCountExpiry s = .next t ∧ t.fl.lane = (if s.fl.timeoutPassed then .lost else .hunt) ∧
      t.fl.checkCount = 0 ∧ t.fl.timeoutPassed = s.fl.timeoutPassed ∧ t.requested .linkChanged ∧ t.out.outbound = [] ∧
      t.tb.now = (if s.tb.source = .localOsc then s.tb.now.next else s.tb.now) ∧ t.tb.source = s.tb.source ∧
      (s.fl.timeoutPassed = true → t.tb.lastLoss = some t.tb.now) ∧
      t.cc = s.cc ∧ t.ct = s.ct ∧ t.re = s.re ∧ t.ps = s.ps

/-- The link timeout reached in HUNT or CHECK: LOST, the loss recorded at the time of the tick, which is the time after
the tick's advance (the model's order, assumption 4), LINK_CHANGED raised (R154, R155, R169). Under a suspended
measurement the loss is declared (R77): with no event open a GAP event opens; with a SUPPLY event open and every watched
detector DIP or INTR the event goes on, presumed an interruption (R78); else it is cut with CUT_BY_GAP, counted in the
cells of its placement and its stored record closed (R75, R90), and a GAP event opens with the next ident (R80). In
STOPPED no event opens. Its running duration is the one after the tick's advance (R67), a tick more below the ceiling, in
every state: no ceiling is put to a duration that stands above it. -/
def Obligations.LinkTimeoutDeclaresLoss : Prop :=
  ∀ s : State, s.tb.power = .run → s.tb.countdown = none → s.fl.lane = .hunt ∨ s.fl.lane = .check →
    s.fl.timeoutPassed = false → s.fl.linkTimeout ≤ s.fl.sinceReference + 1 → s.fl.linkTimeout ≤ 65535 →
    ∃ t, exec .linkTimeoutExpiry s = .next t ∧ t.fl.lane = .lost ∧ t.fl.timeoutPassed = true ∧
      t.tb.lastLoss = some t.tb.now ∧ t.requested .linkChanged ∧
      (s.cc.measurement = .suspended → s.et.context = none →
        ∃ x, t.et.context = some x ∧ x.kind = .gap ∧ x.ident = s.er.nextIdent ∧ x.start = t.tb.now ∧ x.running = 0 ∧
          t.requested .eventOpened) ∧
      (s.cc.measurement = .stopped → s.et.context = none → t.et.context = none) ∧
      ∀ x, s.cc.measurement = .suspended → s.tb.source = .localOsc → s.et.context = some x → x.kind = .supply →
        ((∀ p, s.watched p = true → s.et.detectors.get p = .dip ∨ s.et.detectors.get p = .intr) →
          ∃ y, t.et.context = some y ∧ y.kind = .supply ∧ y.ident = x.ident ∧ y.start = x.start ∧
            y.running = durationAfter x.running ∧ y.stretch = some (x.stretch.getD (durationAfter x.running)) ∧
            (x.stretch = none → y.interruptionSeen = true) ∧ y.dip = x.dip ∧ y.swell = x.swell ∧
            hasFlag y.flags .linkLoss = true ∧
            (∀ p : Phase, y.involved.get p = (x.involved.get p || s.watched p)) ∧
            (∀ p : Phase, t.et.detectors.get p = if s.watched p then .intr else s.et.detectors.get p) ∧
            t.er.nextIdent = s.er.nextIdent ∧ t.cm = s.cm) ∧
        ((∃ p, s.watched p = true ∧ s.et.detectors.get p ≠ .dip ∧ s.et.detectors.get p ≠ .intr) →
          (∃ y, t.et.context = some y ∧ y.kind = .gap ∧ y.ident = s.er.nextIdent ∧ y.start = t.tb.now ∧
            y.running = 0) ∧
          t.et.detectors = ⟨.normal, .normal, .normal⟩ ∧ t.requested .eventClosed ∧ t.requested .eventOpened ∧
          ∀ q, q = placeEvent s.cm.bounds s.ps.unoms x.supplyKind (x.finish s.watchedSet).dip x.swell
              (durationAfter x.running) →
            s.cm.Counted t.cm q x.stored ∧
            (x.stored = true → ∀ r ∈ t.er.records, r.ident = x.ident → r.kind = .supply →
              r.Completed (durationAfter x.running) x.supplyKind (s.cm.cell q.cell).code q ∧
              hasFlag r.flags .cutByGap = true))

/-- A forced boundary: decided at position 143 or later, and placed by the tracker's state and early mark (R22): in
LOCKED at the last good half period; else at 98 frames with the early mark set, the frame itself being able to set it
where it confirms an early candidate (R21), and without it at the nominal half period in ACQUIRE and at the last good
one in HOLD. The tracker's run of accepted crossings ends, LOCKED gives way to HOLD with TRACKER_HOLD raised, and the new
half cycle is counted from the boundary frame (R22, R23, R27). An accepted crossing: a candidate at 98 or later whose
third debounce sample, of the reference channel, lies beyond the band on the new side (R19, R20, R21). The polarity
turns, unless another reference is chosen (R18), the accepted run grows to at most 2, the last good half period is the
half cycle just ended where the run was not 0 (R28), the tracker locks, stays locked or falls to HOLD by the run and the
reference (R27), and the segment opens or counts one half cycle more (R30, R31). -/
def Obligations.ForcedBoundaryIsPlaced : Prop :=
  (∀ (s : State) (f : InboundFrame) (d : Decision), s.Aligned → s.Consecutive f → s.Measuring →
    s.decides f = some d → d.kind = .synthetic →
    ∃ t, exec (.forcedBoundary f) s = .next t ∧ t.ct.acceptedRun = 0 ∧ t.ct.early = false ∧
      t.ct.position = d.deciding - d.frame + 1 ∧
      t.ct.state = (if s.ct.state = .acquire then .acquire else .hold) ∧
      (s.ct.state = .locked → t.requested .trackerHold) ∧ t.ct.lastGood = s.ct.lastGood ∧
      t.tb.now = s.tb.now.next ∧ (∀ i : Fin 8, t.cc.table[i].awaiting = none) ∧
      d.deciding = s.ct.position ∧ 143 ≤ d.deciding ∧
      (s.ct.state = .locked → d.frame = s.ct.lastGood) ∧
      (s.ct.state ≠ .locked → s.ct.early = true → d.frame = 98) ∧
      (s.ct.state ≠ .locked → s.ct.early = false →
        d.frame = (if s.ct.state = .acquire then s.ps.nominalHalf else s.ct.lastGood) ∨
        (d.frame = 98 ∧ ∃ c n, s.ct.candidate = .crossing c n ∧ c < 98))) ∧
  ∀ (s : State) (f : InboundFrame) (d : Decision), s.Aligned → s.Consecutive f → s.Measuring →
    s.decides f = some d → d.kind = .accepted →
    ∃ t, exec (.goodInboundFrame f) s = .next t ∧ 98 ≤ d.frame ∧ d.deciding = s.ct.position ∧
      (∃ (p : Phase) (side : Side) (x : Scaled) (n : Nat), s.ct.reference = some p ∧ s.ct.polarity = some side ∧
        s.cc.scale (frameContent f) p.channel = some x ∧ s.ct.candidate = .crossing d.frame n ∧ 2 ≤ n ∧
        (side = .positive → x.value < -(((s.ps.activeSet.phase.get p).unom / 16 : Nat) : Int)) ∧
        (side = .negative → (((s.ps.activeSet.phase.get p).unom / 16 : Nat) : Int) < x.value) ∧
        t.ct.polarity = (if t.ct.reference.isSome ∧ t.ct.reference ≠ s.ct.reference then none
          else some (match side with
            | .positive => .negative
            | .negative => .positive))) ∧
      t.ct.candidate = .absent ∧ t.ct.early = false ∧ t.ct.position = d.deciding - d.frame + 1 ∧
      t.ct.acceptedRun = (if s.ct.acceptedRun < 2 then s.ct.acceptedRun + 1 else s.ct.acceptedRun) ∧
      t.ct.lastGood = (if 1 ≤ s.ct.acceptedRun then d.frame else s.ct.lastGood) ∧
      (t.ct.reference = some .l1 ↔ t.MeetsReference .l1) ∧
      (t.ct.reference = some .l2 ↔ ¬t.MeetsReference .l1 ∧ t.MeetsReference .l2) ∧
      (t.ct.reference = some .l3 ↔ ¬t.MeetsReference .l1 ∧ ¬t.MeetsReference .l2 ∧ t.MeetsReference .l3) ∧
      (s.ct.state = .locked → t.ct.state = (if t.ct.reference.isSome then .locked else .hold)) ∧
      (s.ct.state ≠ .locked → t.ct.state =
        (if t.ct.acceptedRun = 2 ∧ t.ct.reference.isSome then .locked else s.ct.state)) ∧
      (s.ct.state = .locked → t.ct.state = .hold → t.requested .trackerHold) ∧
      (s.ct.segmentCount = none →
        t.ct.segmentCount = some 0 ∧ t.ct.segmentFrames = 0 ∧ t.ct.segmentAccepted = true) ∧
      (∀ n, s.ct.segmentCount = some n → n + 1 < 2 * s.ct.cycles → t.ct.segmentCount = some (n + 1) ∧
        t.ct.segmentFrames = s.ct.segmentFrames + d.frame ∧ t.ct.segmentAccepted = s.ct.segmentAccepted)

/-- A segment end: the next segment opens at once in the tracker and in the RMS Engine (R30, R40), and the segment event
mark starts anew from this boundary where a segment was open (R135). A pending switch takes effect there with no SUPPLY
event open, with the levels of the target's content, and PROFILE_SWITCHED is raised; with a SUPPLY event open the
Profile Store is as it was (R58, R59). Every boundary, decided at a position of 98 or more: the half cycle closes with
the early sums and marks and those of the late entries before the boundary frame, the entries from it on open the new
one, scaled again where a pair was pending (R34, R35), and every pending pair comes into force. With a previous half
cycle each phase channel present has a refreshed RMS of the two, with their marks (R36), and STARTING becomes RUNNING
(R14). The ring marks the boundary frame's entry as the start of a half cycle (R108); the count of complete half cycles
rises to at most 8, and in RUNNING the trigger-ready flag is set once the count has reached W (R109). The half cycle is
added to an open segment; at the segment's end the interval that receives it, here the open one, takes the segment RMS
of each channel present, the frequency where it is present, and the counts and flags of the segment (R40, R133). -/
def Obligations.SegmentEndOpensNext : Prop :=
  (∀ (s : State) (f : InboundFrame) (d : Decision), s.Aligned → s.Consecutive f → s.Measuring →
    s.decides f = some d → s.ct.endsSegment = true →
    ∃ t, exec (.segmentEnd f) s = .next t ∧ t.ct.segmentCount = some 0 ∧ t.ct.segmentFrames = 0 ∧
      t.re.segment = some ⟨0, false, false⟩ ∧ t.re.segmentSums = ⟨0, 0, 0, 0⟩ ∧ t.iu.closing = none ∧
      (s.re.segment.isSome = true → t.iu.eventMark = (s.et.supplyOpen || t.et.supplyOpen)) ∧
      t.cm.bounds = s.cm.bounds ∧ t.ps.setA = s.ps.setA ∧ t.ps.setB = s.ps.setB ∧ t.ps.write = s.ps.write ∧
      (s.ps.switchTo = none ∨ s.et.supplyOpen = true → t.ps = s.ps) ∧
      ∀ n, s.ps.switchTo = some n → s.et.supplyOpen = false →
        t.ps.active = n ∧ t.ps.switchTo = none ∧ t.ps.levels = setLevels (s.ps.get n) ∧
        t.ps.neLevel = setNeLevel (s.ps.get n) ∧ t.requested .profileSwitched) ∧
  ∀ (s : State) (f : InboundFrame) (d : Decision) (es fresh : List LateEntry), s.Aligned → s.Consecutive f →
    s.Measuring → s.decides f = some d → 98 ≤ s.ct.position →
    es = s.re.late ++ [s.cc.entryOf (frameContent f) false] →
    fresh = (if s.cc.pairPending then
        ((es.drop (d.frame - 98)).zip ((s.cc.kept.map (·.content) ++ [frameContent f]).drop (d.frame - 98))).map
          (fun x => s.cc.applyPairs.entryOf x.2 x.1.substituted)
      else es.drop (d.frame - 98)) →
    ∃ t h, exec (.goodInboundFrame f) s = .next t ∧ t.re.previous = some h ∧
      s.re.Closes (es.take (d.frame - 98)) d.frame h ∧ h.held = (d.kind == .synthetic || s.ct.acceptedRun == 0) ∧
      t.re.Opens fresh ∧
      (∀ i : Fin 8, t.cc.table[i] = (match s.cc.table[i].awaiting with
        | none => s.cc.table[i]
        | some p => { s.cc.table[i] with gain := p.gain, offset := p.offset, awaiting := none })) ∧
      (s.re.previous = none → t.re.refreshed = s.re.refreshed) ∧
      (∀ a, s.re.previous = some a → ∀ p : Phase, t.re.refreshed.get p = (if s.cc.present p.channel then
        some { value := exactRoot (a.sums.get p.channel + h.sums.get p.channel) (a.count + h.count),
               patched := a.patched || h.patched, clipped := a.clipped.get p.channel || h.clipped.get p.channel,
               held := a.held || h.held } else none)) ∧
      t.cc.measurement = (if s.re.previous.isSome = true then .running else s.cc.measurement) ∧
      t.ce.ring = (s.ringWith f).modify ((s.ringWith f).length - 1 - d.lag) (fun e => { e with opens := true }) ∧
      t.ce.completeHalves = (if s.ce.completeHalves < 8 then s.ce.completeHalves + 1 else s.ce.completeHalves) ∧
      (t.ce.ready = true ↔ s.ce.ready = true ∨
        (t.cc.measurement = .running ∧ s.ce.settings.pre ≤ t.ce.completeHalves)) ∧
      (s.re.segment = none → t.re.segment = some ⟨0, false, false⟩ ∧
        ∀ c : Channel, t.re.segmentSums.get c = 0 ∧ t.re.segmentClipped.get c = false) ∧
      ∀ g, s.re.segment = some g →
        (s.ct.endsSegment = false →
          t.re.segment = some ⟨g.count + h.count, g.patched || h.patched, g.held || h.held⟩ ∧
          ∀ c : Channel, t.re.segmentSums.get c = s.re.segmentSums.get c + h.sums.get c ∧
            t.re.segmentClipped.get c = (s.re.segmentClipped.get c || h.clipped.get c)) ∧
        (s.ct.endsSegment = true → s.iu.closing = none → s.tb.now.next ≠ ⟨s.iu.current.endSec, 0⟩ →
          (∀ c : Channel, s.cc.present c = true → (s.iu.current.totals.get c).Takes (t.iu.current.totals.get c)
            (exactRoot (s.re.segmentSums.get c + h.sums.get c) (g.count + h.count))) ∧
          (∀ c : Channel, s.cc.present c = false → t.iu.current.totals.get c = s.iu.current.totals.get c) ∧
          (s.ct.segmentAccepted = true → d.kind = .accepted →
            t.iu.current.freqCount = s.iu.current.freqCount + 1 ∧
            t.iu.current.freqSum = s.iu.current.freqSum +
              roundHalfUp (12800000 * s.ct.cycles) (s.ct.segmentFrames + d.frame)) ∧
          (s.ct.segmentAccepted = false ∨ d.kind = .synthetic →
            t.iu.current.freqCount = s.iu.current.freqCount ∧ t.iu.current.freqSum = s.iu.current.freqSum) ∧
          t.iu.current.patched = s.iu.current.patched + (if g.patched || h.patched then 1 else 0) ∧
          t.iu.current.clipped = s.iu.current.clipped +
            (if channels.any (fun c => s.re.segmentClipped.get c || h.clipped.get c) then 1 else 0) ∧
          (s.iu.eventMark = true ∨ s.et.supplyOpen = true ∨ t.et.supplyOpen = true →
            t.iu.current.has .event = true) ∧
          (s.ps.switchTo.isSome = true → s.et.supplyOpen = false → t.iu.current.has .mixedProfile = true) ∧
          (∀ r, s.cc.present .ne = true → r = exactRoot (s.re.segmentSums.ne + h.sums.ne) (g.count + h.count) →
            t.ps.neLevel < r → t.iu.current.has .neHigh = true))

/-- At a boundary a filling capture's end comes before its span (R118, R121): the P-th boundary of a post-trigger count
and the last boundary of a manual length settle the capture and raise CAPTURE_SETTLED, and nothing then fills but the
capture of a SUPPLY event that opens at that very boundary (R115, R117); else the last boundary of a FULL or THIN span
begins the other kind of span at offset 0, for its whole number of boundaries, unless a SUPPLY event of the capture
closes there and leaves it UNDECIDED, when the capture is discarded (R124). So too where the deciding frame carries the
last word of a message, that of a readout among them, in every state with no two captures of one ident: a law that every
step keeps (StepKeepsBlocksOnce, R112).

The frame records that a filling capture takes, in every state that keeps the law of the blocks: a record that the span
does not take is not stored; one that it takes is the next entry of the capture's last block, or, where an entry begins
a new block, the first entry of the block at the free list's head, with the span's kind and spacing and the frame's time
(R111, R118, R119). Every other block is as it was. At the maximum of blocks, and with no block free and nothing to
evict, filling ends with TRUNCATED, which an open joined event takes on as CAPTURE_TRUNCATED (R119, R121). With no block
free the first capture that can be evicted goes, with CAPTURE_EVICTED and the register and an open joined event told,
and its first block is taken, its others staying on the free list (R105, R110, R120). A decided boundary can besides
settle or discard captures and start one: there the blocks are said of in MANUAL mode, where none starts.

A SUPPLY event that opens with no capture FILLING is refused a capture where the trigger-ready flag is clear or the room
test fails, and else one starts for it, with its PRE span from the ring (R115, R117; where nothing but the half cycle in
progress is copied, assumption 23). -/
def Obligations.CaptureFillingAtBoundary : Prop :=
  (∀ (s : State) (f : InboundFrame) (d : Decision) (x : FillState) (c : Capture), s.Aligned → s.Consecutive f →
    s.Measuring → s.decides f = some d → s.RoomToFill x c → (∀ e ∈ s.ce.directory, e.state = .filling → e = c) →
    (s.ra.sending = none ∨ (s.ce.directory.map (·.ident)).Nodup) →
    (x.countEnds.postDone = true → ∃ t, exec (.postTriggerCountEnd f) s = .next t ∧ t.requested .captureSettled ∧
      (t.FillingOver c ∨ s.OpensCapture t)) ∧
    (x.countEnds.postDone = false → x.countEnds.manualDone = true →
      ∃ t, exec (.manualCaptureEnd f) s = .next t ∧ t.requested .captureSettled ∧
        (t.FillingOver c ∨ s.OpensCapture t)) ∧
    (x.countEnds.postDone = false → x.countEnds.manualDone = false → x.endsSpan = true →
      ∃ t, exec (.captureSpanEnd f) s = .next t ∧
        ((∃ y, t.ce.fill = some y ∧ y.kind = (if x.kind = .full then .thin else .full) ∧ y.offset = 0 ∧
            y.boundariesLeft = (if x.kind = .full then x.thin else s.ce.settings.full)) ∨
          s.Discards t c))) ∧
  (∀ (s : State) (f : InboundFrame) (x : FillState) (c : Capture) (samples : List Int), s.Aligned → s.Consecutive f →
    s.Measuring → s.BlocksOnce → s.ce.fill = some x → s.ce.filling = some c →
    samples = s.cc.samplesOf (frameContent f) → s.decides f = none ∨ s.ce.settings.mode = .manual →
    ∃ t, exec (.goodInboundFrame f) s = .next t ∧
      (¬x.TakesRecord → (∀ m, t.ce.block m = s.ce.block m) ∧
        (s.decides f = none → t.ce.fill = some { x with offset := x.offset + 1 } ∧
          (s.Midway → t.ce.free = s.ce.free ∧ t.ce.directory = s.ce.directory))) ∧
      (x.TakesRecord → ¬x.BeginsBlock (s.ce.lastBlock c) s.tb.now.next → ∀ n, c.blocks.getLast? = some n →
        s.BlockBecomes t n { s.ce.block n with entries := (s.ce.block n).entries ++ [samples] } ∧
        (s.decides f = none → t.ce.fill = some { x with offset := x.offset + 1, fresh := false } ∧
          (s.Midway → t.ce.free = s.ce.free ∧ t.ce.directory = s.ce.directory))) ∧
      (x.TakesRecord → x.BeginsBlock (s.ce.lastBlock c) s.tb.now.next → c.blocks.length < s.ce.settings.maxBlocks →
        (∀ n rest, s.ce.free = n :: rest →
          s.BlockBecomes t n { kind := x.kind, spacing := if x.kind = .thin then x.factor else 1,
                               first := s.tb.now.next, entries := [samples] } ∧
          (s.decides f = none → t.ce.fill = some { x with offset := x.offset + 1, fresh := false } ∧
            t.ce.find c.ident = some { c with blocks := c.blocks ++ [n] } ∧
            (s.Midway → t.ce.free = rest ∧ t.ce.directory = s.ce.directory.map (fun e =>
              if e = c then { c with blocks := c.blocks ++ [n] } else e)))) ∧
        (∀ (before : List Capture) (e : Capture) (after : List Capture) (n : Nat) (rest : List Nat), s.Midway →
          s.ce.free = [] → s.ce.directory = before ++ e :: after → (∀ q ∈ before, ¬q.Evictable) → e.Evictable →
          e.blocks = n :: rest →
          t.requested .captureEvicted ∧
          s.BlockBecomes t n { kind := x.kind, spacing := if x.kind = .thin then x.factor else 1,
                               first := s.tb.now.next, entries := [samples] } ∧
          (s.decides f = none → t.ce.fill = some { x with offset := x.offset + 1, fresh := false } ∧
            t.ce.free = rest ∧ t.ce.directory = (before ++ after).map (fun e =>
              if e = c then { c with blocks := c.blocks ++ [n] } else e) ∧
            s.er.Forgets t.er e ∧
            ∀ g, s.et.context = some g → ∃ y, t.et.context = some y ∧ y.capture =
              (if g.ident ∈ e.joined ∧ g.capture = some e.ident then none else g.capture)))) ∧
      (x.TakesRecord → x.BeginsBlock (s.ce.lastBlock c) s.tb.now.next →
        s.ce.settings.maxBlocks ≤ c.blocks.length ∨
          (s.Midway ∧ s.ce.free = [] ∧ ∀ e ∈ s.ce.directory, ¬e.Evictable) →
        (∀ m, t.ce.block m = s.ce.block m) ∧ t.requested .captureSettled ∧
        (s.decides f = none → t.ce.fill = none ∧
          t.ce.find c.ident = some { c with state := .settled, truncated := true } ∧
          ∀ g, s.et.context = some g → g.ident ∈ c.joined →
            ∃ y, t.et.context = some y ∧ hasFlag y.flags .captureTruncated = true))) ∧
  ∀ (s : State) (f : InboundFrame) (d : Decision), s.Aligned → s.Consecutive f → s.Measuring → s.BlocksOnce →
    s.Midway → s.decides f = some d → s.ce.settings.mode = .auto → s.ce.fill = none → s.ce.filling = none →
    s.et.supplyOpen = false →
    ∃ t, exec (.goodInboundFrame f) s = .next t ∧ ∀ v, t.et.context = some v → v.kind = .supply →
      ((t.ce.ready = true ∧ ({ s.ce with ring := t.ce.ring } : CaptureEngine).canStart = true) →
        ∃ c, s.Starts t c ∧ v.capture = some c.ident ∧ c.origin = .event ∧ c.joined = [v.ident] ∧
          c.decision = .undecided ∧ c.start = v.start ∧
          (v.stored = true → ∀ r ∈ t.er.records, r.ident = v.ident → r.closed = false → r.capture = some c.ident)) ∧
      (t.ce.ready = false ∨ ({ s.ce with ring := t.ce.ring } : CaptureEngine).canStart = false →
        v.capture = none ∧ hasFlag v.flags .captureRefused = true ∧ t.ce.directory = s.ce.directory ∧
        t.ce.free = s.ce.free ∧ t.ce.fill = none ∧ ∀ m, t.ce.block m = s.ce.block m)

/-- Device time reaching the open interval's end opens its successor at that end with the next index; outside
measurement the ended interval closes at once and INTERVAL_CLOSED is raised, unless a clearing defers it (R132, R137,
R184). Its record, with each channel's RMS by the exact test, the mean frequency rounded half up and the category of
each phase channel, is the newest of the log (R138, R142), unless the greatest index had closed before (R139), and its
categories are counted (R143). A close that completes the observation period appends its summary, with the counts and a
verdict for each phase channel, begins a new period and raises OBSERVATION_CLOSED (R143, R144). In STARTING or RUNNING
the ended interval, its span counted to E, becomes the closing interval (R137). It closes at the first boundary decided
from then on, or at E plus 48 ticks: with its record, its assessment in the observation period and its push offer (R137,
R138, R139, R188). A segment that such a boundary ends goes to it where its boundary frame is before E, and to the open
interval otherwise (R133, R134). Where no message is in transmission the frame sent in the same step may grant the head
of the push list (R187). -/
def Obligations.IntervalsEndWithDeviceTime : Prop :=
  ∀ (s : State) (a : Arrival), s.Advances a → s.tb.now.next ≠ s.tb.now →
    (s.tb.now.next = ⟨s.iu.current.endSec, 0⟩ →
      (∃ t, exec (.intervalEnd a) s = .next t ∧ t.iu.current.start = ⟨s.iu.current.endSec, 0⟩ ∧
        t.iu.current.length = s.iu.length ∧
        (s.iu.current.index < 4294967295 → t.iu.current.index = s.iu.current.index + 1) ∧
        (s.cc.measurement = .stopped ∨ s.cc.measurement = .suspended →
          (s.cu.work ≠ .clearing → t.requested .intervalClosed) ∧
          (s.cu.work = .clearing → t.iu.deferred =
            s.iu.deferred ++ [{ s.iu.current with span := s.iu.current.span + 1 }])) ∧
        (s.Measuring → (∀ f, a = .frame f → s.decides f = none) →
          t.iu.closing = some { s.iu.current with span := s.iu.current.span + 1 } ∧ t.iu.deferred = s.iu.deferred ∧
          s.MakesCloses t s s.iu.closing.toList ∧
          ∃ b, s.OffersPushes t s.iu.closing.toList s.ra.intervalPushes b ∧ s.PushesGranted t b) ∧
        ((s.cc.measurement = .stopped ∨ s.cc.measurement = .suspended) → s.cu.work ≠ .clearing → s.iu.closing = none →
          s.MakesCloses t s [{ s.iu.current with span := s.iu.current.span + 1 }] ∧
          ∃ b, s.OffersPushes t [{ s.iu.current with span := s.iu.current.span + 1 }] s.ra.intervalPushes b ∧
            s.PushesGranted t b) ∧
        ((s.cc.measurement = .stopped ∨ s.cc.measurement = .suspended) → s.cu.work ≠ .clearing → s.iu.closing = none →
          (s.iu.lastIndexClosed = false ∨ s.iu.current.index ≠ 4294967295 →
            ∃ r, t.iu.log.getLast? = some r ∧ s.Records r) ∧
          (s.iu.periodClosed + 1 < s.iu.period → t.iu.periodClosed = s.iu.periodClosed + 1 ∧
            t.iu.firstIndex = some (s.iu.firstIndex.getD s.iu.current.index) ∧
            ∀ p : Phase, (s.iu.counters.get p).Counts (t.iu.counters.get p) (s.closeCategory p)))) ∧
      ((s.cc.measurement = .stopped ∨ s.cc.measurement = .suspended) → s.cu.work ≠ .clearing → s.iu.closing = none →
        s.iu.period ≤ s.iu.periodClosed + 1 →
        ∃ t m, exec (.observationPeriodEnd a) s = .next t ∧ t.iu.summaries.getLast? = some m ∧
          m.first = s.iu.firstIndex.getD s.iu.current.index ∧
          m.last = s.iu.current.index ∧ m.period = s.iu.period ∧ m.allowance = s.iu.allowance ∧
          m.coverage = s.iu.coverage ∧
          (∀ p : Phase, (s.iu.counters.get p).Counts (m.counts.get p) (s.closeCategory p) ∧
            ∀ n, n = m.counts.get p → m.verdicts.get p =
              (if (n.inBand + n.low + n.high) * 1000 < s.iu.coverage * s.iu.period then .insufficient
               else if (n.low + n.high) * 1000 ≤ s.iu.allowance * (n.inBand + n.low + n.high) then .pass
               else .fail)) ∧
          t.iu.periodClosed = 0 ∧ t.iu.firstIndex = none ∧
          (∀ p : Phase, t.iu.counters.get p = ⟨0, 0, 0, 0, 0, 0⟩) ∧
          t.requested .observationClosed ∧ t.requested .intervalClosed)) ∧
    (s.tb.now.next ≠ ⟨s.iu.current.endSec, 0⟩ → ∀ v : Interval, s.iu.closing = some v →
      v.endSec * 12800 + 48 ≤ s.tb.now.next.toTicks →
      ∃ t, exec (.closingIntervalTimeout a) s = .next t ∧ t.iu.closing = none ∧ t.requested .intervalClosed ∧
        s.MakesCloses t s [v] ∧ ∃ b, s.OffersPushes t [v] s.ra.intervalPushes b ∧ s.PushesGranted t b) ∧
    ∀ (f : InboundFrame) (d : Decision) (v : Interval) (time : DeviceTime), a = .frame f → s.Measuring →
      s.decides f = some d → 98 ≤ s.ct.position →
      (s.cc.kept.map (·.time) ++ [s.tb.now.next])[d.frame - 98]? = some time →
      (s.tb.now.next = ⟨s.iu.current.endSec, 0⟩ ∧ s.iu.closing = none ∧
          v = { s.iu.current with span := s.iu.current.span + 1 }) ∨
        (s.tb.now.next ≠ ⟨s.iu.current.endSec, 0⟩ ∧ s.iu.closing = some v ∧
          s.tb.now.next.toTicks < v.endSec * 12800 + 48) →
      ∃ t w, exec (.goodInboundFrame f) s = .next t ∧ t.iu.closing = none ∧
        (s.ct.endsSegment = false ∨ s.re.segment = none ∨ v.endSec * 12800 ≤ time.toTicks → w = v) ∧
        (s.ct.endsSegment = true → time.toTicks < v.endSec * 12800 → s.SegmentTo t d v w) ∧
        (s.tb.now.next ≠ ⟨s.iu.current.endSec, 0⟩ → ∀ u, u = { s.iu.current with span := s.iu.current.span + 1 } →
          (s.ct.endsSegment = false ∨ s.re.segment = none ∨ time.toTicks < v.endSec * 12800 → t.iu.current = u) ∧
          (s.ct.endsSegment = true → v.endSec * 12800 ≤ time.toTicks → s.SegmentTo t d u t.iu.current)) ∧
        s.MakesCloses t t [w] ∧
        ∃ x, (x = s.ra.intervalPushes ∨ (s.ra.sending = none ∧ x = s.ra.intervalPushes.drop 1)) ∧
          s.OffersPushes t [w] x t.ra.intervalPushes

/-- The wake countdown reaching 0 at a second change wakes the part: RUN, HUNT, the cause WAKE_TIMER, LINK_CHANGED and
WOKE raised, and nothing sent (R176, R177). -/
def Obligations.CountdownWakesThePart : Prop :=
  ∀ s : State, s.tb.power = .standby → s.tb.countdown = some 1 → s.tb.now.tick = 12799 → s.tb.now.sec < 4294967295 →
    ∃ t, exec .wakeTimerExpiry s = .next t ∧ t.tb.power = .run ∧ t.tb.countdown = none ∧
      t.tb.lastWake = some .wakeTimer ∧ t.tb.now = ⟨s.tb.now.sec + 1, 0⟩ ∧ t.fl.lane = .hunt ∧
      t.requested .linkChanged ∧ t.requested .woke ∧ t.out.outbound = [] ∧ t.cc = s.cc ∧ t.ps = s.ps

/-- The last relay frame is sent at the tick, the buffer is empty, and RELAYED is answered with the message's command
code (R165). -/
def Obligations.LastRelayFrameAnswersRelayed : Prop :=
  ∀ (s : State) (code : Nat) (w : BitVec 32), s.tb.power = .run → s.cu.work = .relaying code → s.fl.relay = [w] →
    s.cu.stream = none → s.cu.waiting = none → s.ra.responses.length < 8 →
    ∃ t, exec .relayComplete s = .next t ∧ t.out.relayed = [w] ∧ t.fl.relay = [] ∧ t.cu.state = .idle ∧
      t.cu.work = .idle ∧
      t.ra.responses.getLast? = some (answerOf code .relayed [])

/-- The last word of a stream item goes out with the outbound frame, and the next item or the end message is placed: the
next record, interval or summary as the list stands at that moment, or, when the count is used up or none is left, the
end message with what the rule names (the presence bit of an absent oldest index is the model's, assumption 35); the last
word of an end message sent, the stream is over and the Command Unit IDLE (R104, R147, R148, R182). -/
def Obligations.SentStreamMessages : Prop :=
  ∀ (s : State) (a : Arrival) (w : BitVec 32), s.Searching →
    (∀ st : ReadStream, s.ra.sending = some ⟨[w], .response .streamItem⟩ → s.cu.stream = some st →
      s.cu.waiting = none → s.ra.responses.length < 8 →
      ∃ t x, exec (.streamItemSent a) s = .next t ∧ t.out.outbound.map (·.report) = [w] ∧ t.ra.sending = none ∧
        t.ra.responses = s.ra.responses ++ [x] ∧ x.form ≠ .single ∧ t.cu.state = .streaming ∧
        t.StreamNext st x t.cu.stream) ∧
    (s.ra.sending = some ⟨[w], .response .endMessage⟩ → s.cu.work = .idle →
      ∃ t, exec (.endMessageSent a) s = .next t ∧ t.out.outbound.map (·.report) = [w] ∧ t.ra.sending = none ∧
        t.ra.responses = s.ra.responses ∧ t.cu.state = .idle ∧ t.cu.stream = none)

/-- What a report message sent in full does: a CLOSE push sets REPORTED on the record of its ident, and DETAIL_LATE
where the copy sent named a capture that the record no longer names (R106); a notice is queued again just when an
enabled cause is still requested (R191); the last block message of a readout leaves no capture of that ident READING
(R128). A frame sent with no message in transmission, here one of CHECK, carries the first word of a message of the
pending source of the highest level, the fixed order deciding among equals, and the idle word where no source is pending;
that message is taken from its source, a notice being formed with the enabled causes requested, a push with the record as
it stands, and occupies the report words until its last (R187, R189, R191). A queued notice with no enabled cause requested
is withdrawn where its turn comes, and the notice-queued flag cleared, the grant passing to the next source; else the
Notice Unit is as it was (R191). That a push without its record carries no presence word is the model's choice (assumption
40). -/
def Obligations.SentReportsTakeEffect : Prop :=
  (∀ (s : State) (a : Arrival) (w : BitVec 32), s.Searching →
    (∀ (n : Nat) (named : Option Nat), s.ra.sending = some ⟨[w], .eventPush ⟨n, .closed⟩ named⟩ →
      ∃ t, exec (.eventPushSent a) s = .next t ∧ t.ra.sending = none ∧ t.out.outbound.map (·.report) = [w] ∧
        ∀ r ∈ t.er.records, r.ident = n → hasFlag r.flags .reported = true ∧
          (named.isSome = true → named ≠ r.capture → hasFlag r.flags .detailLate = true)) ∧
    (s.ra.sending = some ⟨[w], .notice⟩ →
      ∃ t, exec (.noticeSent a) s = .next t ∧ t.ra.sending = none ∧ t.out.outbound.map (·.report) = [w] ∧
        (t.nu.queued = true ↔ t.nu.requests &&& t.nu.enables ≠ 0)) ∧
    (∀ n : Nat, s.ra.sending = some ⟨[w], .captureData n true⟩ →
      (∀ c ∈ s.ce.directory, c.ident = n → c.state = .reading) →
      ∃ t, exec (.readoutEnd a) s = .next t ∧ t.ra.sending = none ∧ t.out.outbound.map (·.report) = [w] ∧
        ∀ c ∈ t.ce.directory, c.ident = n → c.state = .settled)) ∧
  ∀ (s : State) (f : InboundFrame), s.tb.power = .run → s.fl.lane = .check → s.fl.checkCount < 3 → s.Consecutive f →
    s.ra.sending = none →
    ∃ t o, exec (.goodInboundFrame f) s = .next t ∧ t.out.outbound = [o] ∧
      (s.Withdrawn → t.nu = { s.nu with queued := false }) ∧ (¬s.Withdrawn → t.nu = s.nu) ∧
      ((∀ y, ¬s.Waits y) → o.report = 0 ∧ t.ra = s.ra) ∧
      (s.Granted .response → ∀ x rest, s.ra.responses = x :: rest →
        o.report = (x.sentWords s.tb).headD 0 ∧ (∃ q, t.ra.responses = rest ++ q) ∧
        (s.cu.waiting = none → x.form = .single → t.ra.responses = rest) ∧
        (∀ w ws, (x.sentWords s.tb).drop 1 = w :: ws → t.ra.sending = some ⟨w :: ws, .response x.form⟩) ∧
        t.ra.eventPushes = s.ra.eventPushes ∧ t.ra.intervalPushes = s.ra.intervalPushes ∧
        t.ra.blockQueue = s.ra.blockQueue) ∧
      (s.Granted .notice → o.report = word (2 * 268435456 + 65536 + (s.nu.requests &&& s.nu.enables).toNat) ∧
        t.ra = s.ra) ∧
      (s.Granted .event → ∀ p rest, s.ra.eventPushes = p :: rest →
        o.report = (p.words (s.er.find p.ident)).headD 0 ∧
        t.ra = { s.ra with eventPushes := rest, sending := some ⟨(p.words (s.er.find p.ident)).drop 1,
          .eventPush p ((s.er.find p.ident).bind (·.capture))⟩ }) ∧
      (s.Granted .interval → ∀ i rest, s.ra.intervalPushes = i :: rest →
        o.report = (intervalPushWords i (s.iu.log.find? (fun r => r.index == i))).headD 0 ∧
        t.ra = { s.ra with intervalPushes := rest, sending := some (⟨(intervalPushWords i
          (s.iu.log.find? (fun r => r.index == i))).drop 1, .intervalPush⟩ : Sending) }) ∧
      (s.Granted .capture → ∀ b rest, s.ra.blockQueue = b :: rest →
        o.report = (s.ce.blockMessage b).headD 0 ∧
        t.ra = { s.ra with blockQueue := rest, sending := some (⟨(s.ce.blockMessage b).drop 1,
          .captureData b.ident rest.isEmpty⟩ : Sending) })

/-! ## Measurement and link commands -/

/-- START in STOPPED with a phase role assigned: STARTING in ALIGNED, SUSPENDED in HUNT, CHECK and LOST, with a GAP
event in LOST; M taken from its field, clamped to 8 to 16; answered DONE with both (R11, R30, R80). With no phase role
it is refused STATE with M, and outside STOPPED it is answered DONE without effect. That DONE carries the measurement
state and then M, and the refusal M alone, is the model's order (assumption 17). -/
def Obligations.StartLeavesStopped : Prop :=
  ∀ (s : State) (v : Option (BitVec 24)), s.Free →
    (s.cc.measurement = .stopped → s.cc.hasPhase = true →
      ∃ t, exec (.start v) s = .next t ∧
        t.cc.measurement = (if s.fl.lane = .aligned then .starting else .suspended) ∧
        t.ct.cycles = (match v with
          | none => s.ct.cycles
          | some x => max 8 (min x.toNat 16)) ∧
        s.responded t 1 .done [t.cc.measurement.code, t.ct.cycles] ∧ t.cu = s.cu.answered ∧
        t.cc.table = s.cc.table ∧ t.ps = s.ps ∧ t.cm = s.cm ∧ t.fl = s.fl ∧ t.tb = s.tb ∧
        (s.fl.lane ≠ .lost → t.et = s.et ∧ t.er = s.er ∧ t.nu = s.nu) ∧
        (s.fl.lane ≠ .aligned → t.re = s.re ∧ t.ce = s.ce ∧ t.iu = s.iu) ∧
        (s.fl.lane = .lost → ∃ x, t.et.context = some x ∧ x.kind = .gap ∧ x.ident = s.er.nextIdent ∧ x.running = 0)) ∧
    (s.cc.measurement = .stopped → s.cc.hasPhase = false →
      exec (.start v) s = .next (s.begin.answered 1 .state [s.ct.cycles])) ∧
    (s.cc.measurement ≠ .stopped →
      exec (.start v) s = .next (s.begin.answered 1 .done [s.cc.measurement.code, s.ct.cycles]))

/-- STOP in any state: STOPPED, no event open, every detector NORMAL, no pair pending, no capture FILLING, the
trigger-ready flag clear, and DONE answered; the lane, the sets and device time are as they were, and the open interval
stays open with the segments it has taken (R15, R76, R122). In STOPPED it only answers. An open SUPPLY event is cut with
its running duration at the STOP and CUT_BY_STOP, a stretch in progress ending there: it is counted in the cells of its
placement, and its stored record is completed (R75, R76, R89, R90, R99). An open GAP event closes with its running
duration, and nothing is counted. EVENT_CLOSED is raised for either (R15, R74). That a stretch past the
ceiling of the running duration adds the difference of the capped durations is the model's choice (assumption 43). -/
def Obligations.StopEndsMeasurement : Prop :=
  ∀ s : State, s.Free →
    (s.cc.measurement = .stopped → exec .stop s = .next (s.begin.answered 2 .done [])) ∧
    (s.cc.measurement ≠ .stopped →
      ∃ t, exec .stop s = .next t ∧ t.cc.measurement = .stopped ∧ t.et.context = none ∧
        t.et.detectors = ⟨.normal, .normal, .normal⟩ ∧ (∀ i : Fin 8, t.cc.table[i].awaiting = none) ∧
        ((∀ c ∈ s.ce.directory, ∀ e ∈ s.ce.directory, c.state = .filling → e.state = .filling → c = e) →
          ∀ c ∈ t.ce.directory, c.state ≠ .filling) ∧ (s.ce.filling.isSome = true → t.ce.fill = none) ∧
        t.ce.ready = false ∧ s.responded t 2 .done [] ∧ t.fl = s.fl ∧ t.ps = s.ps ∧ t.tb = s.tb ∧ t.ct = s.ct ∧
        t.re = s.re ∧ t.iu.current.index = s.iu.current.index ∧ t.iu.current.start = s.iu.current.start ∧
        t.iu.current.totals = s.iu.current.totals ∧ t.er.nextIdent = s.er.nextIdent ∧
        (s.et.context = none → t.cm = s.cm) ∧
        ∀ x, s.et.context = some x → t.requested .eventClosed ∧
          (x.kind = .gap → t.cm = s.cm ∧ (x.stored = true → ∀ r ∈ t.er.records, r.ident = x.ident →
            r.closed = true ∧ r.duration = some (DeviceTime.ofTicks x.running))) ∧
          (x.kind = .supply → ∀ q, q = placeEvent s.cm.bounds s.ps.unoms x.supplyKind (x.finish s.watchedSet).dip
              x.swell x.running →
            s.cm.Counted t.cm q x.stored ∧
            (x.stored = true → ∀ r ∈ t.er.records, r.ident = x.ident →
              r.Completed x.running x.supplyKind (s.cm.cell q.cell).code q ∧ hasFlag r.flags .cutByStop = true ∧
              (x.supplyKind = .interruption → r.interruption = some (DeviceTime.ofTicks (match x.stretch with
                | none => x.interruption
                | some b => min 54975581388799 (x.interruption + (x.running - b))))))))

/-- CLEAR RECORDS is refused STATE outside STOPPED, then LOCKED under the retention lock, and nothing changes. Accepted,
it empties the register's records, the class counts, the captures, the log, the summaries, the observation counters and
both push lists, withdraws the waiting block messages of a readout and leaves the Command Unit EXECUTING; the freed
blocks go to the free list's tail in directory order, each capture's in its own; no capture fills and no interval is
closing; every other item of the state is as it was (R184, R87, R95, R107, R110, R131, R188). The end of the clearing
places DONE, and the Command Unit is IDLE; with no close deferred nothing else changes; else the deferred closes are
made in order, all of them with their records at the log's end, their categories counted together, the summary where one
of them completes the period (where they complete more than one, nothing is said of the counts), and their push offers,
and INTERVAL_CLOSED is raised, the open interval staying as it is (R184, R149, R138, R139, R142, R143, R144). That all
of it is cleared at the acceptance, and that the deferred closes wait for the end as a list, is the model's choice
(assumption 20). -/
def Obligations.ClearRecordsEmptiesStores : Prop :=
  (∀ s : State, s.Free →
    (s.cc.measurement ≠ .stopped → exec .clearRecords s = .next (s.begin.answered 3 .state [])) ∧
    (s.cc.measurement = .stopped → s.er.locked = true →
      exec .clearRecords s = .next (s.begin.answered 3 .locked [])) ∧
    (s.cc.measurement = .stopped → s.er.locked = false →
      ∃ t, exec .clearRecords s = .next t ∧ t.er = { s.er with records := [] } ∧
        (∀ i : Fin 40, t.cm.cells[i] = { s.cm.cells[i] with count := 0, lost := 0 }) ∧ t.cm.bounds = s.cm.bounds ∧
        t.ce = { s.ce with directory := [], free := s.ce.free ++ (s.ce.directory.map (·.blocks)).flatten,
                           fill := none } ∧
        t.ra = { s.ra with blockQueue := [], eventPushes := [], intervalPushes := [] } ∧
        t.iu = { s.iu with log := [], summaries := [], closing := none, periodClosed := 0, firstIndex := none,
                           counters := ⟨⟨0, 0, 0, 0, 0, 0⟩, ⟨0, 0, 0, 0, 0, 0⟩, ⟨0, 0, 0, 0, 0, 0⟩⟩ } ∧
        t.cu = { s.cu with state := .executing, buffer := [], work := .clearing } ∧
        t.fl = s.fl ∧ t.cc = s.cc ∧ t.ct = s.ct ∧ t.re = s.re ∧ t.ps = s.ps ∧ t.et = s.et ∧ t.tb = s.tb ∧
        t.nu = s.nu ∧ t.out = s.begin.out ∧ t.pending = s.pending)) ∧
  (∀ s : State, s.cu.work = .clearing → s.cu.stream = none → s.ra.responses.length < 8 → s.iu.deferred = [] →
    exec .clearRecordsComplete s = .next ((s.begin.withRa { s.ra with
      responses := s.ra.responses ++ [answerOf 3 .done []] }).withCu
        { s.cu with state := .idle, work := .idle, waiting := none })) ∧
  ∀ s : State, s.cu.work = .clearing → s.cu.stream = none → s.ra.responses.length < 8 → s.iu.deferred ≠ [] →
    ∃ t, exec .clearRecordsComplete s = .next t ∧ t.ra.responses = s.ra.responses ++ [answerOf 3 .done []] ∧
      t.cu = { s.cu with state := .idle, work := .idle, waiting := none } ∧ t.iu.deferred = [] ∧
      t.iu.current = s.iu.current ∧ t.iu.closing = s.iu.closing ∧ t.requested .intervalClosed ∧
      s.MakesCloses t s s.iu.deferred ∧
      s.OffersPushes t s.iu.deferred s.ra.intervalPushes t.ra.intervalPushes ∧
      (∀ (vs : List Interval) (v : Interval), s.iu.deferred = vs ++ [v] → v.index ≠ 4294967295 →
        ∃ r, t.iu.log.getLast? = some r ∧ s.RecordsOf v v.span r) ∧
      t.fl = s.fl ∧ t.cc = s.cc ∧ t.ct = s.ct ∧ t.re = s.re ∧ t.ps = s.ps ∧ t.et = s.et ∧ t.cm = s.cm ∧ t.er = s.er ∧
      t.ce = s.ce ∧ t.tb = s.tb

/-- SET LINK clamps and writes the link timeout and answers with it and the lane state (R186). Where the ticks since the
reference are then at or above the new value, timeout passed is set and a lane in HUNT or CHECK goes to LOST, with the
loss recorded and LINK_CHANGED raised (R154, R169); else nothing but the setting changes. -/
def Obligations.SetLinkActsAtOnce : Prop :=
  ∀ s : State, s.Free →
    exec (.setLink none) s = .next (s.begin.answered 28 .done [s.fl.linkTimeout, s.fl.lane.code]) ∧
    ∀ v : BitVec 24, ∃ t, exec (.setLink (some v)) s = .next t ∧ t.fl.linkTimeout = max 32 (min v.toNat 65535) ∧
      t.fl.lane = (if t.fl.linkTimeout ≤ s.fl.sinceReference ∧ (s.fl.lane = .hunt ∨ s.fl.lane = .check) then .lost
        else s.fl.lane) ∧
      t.fl.timeoutPassed = (s.fl.timeoutPassed || decide (t.fl.linkTimeout ≤ s.fl.sinceReference)) ∧
      t.fl.sinceReference = s.fl.sinceReference ∧
      (t.fl.linkTimeout ≤ s.fl.sinceReference → s.fl.lane = .hunt ∨ s.fl.lane = .check →
        t.tb = { s.tb with lastLoss := some s.tb.now } ∧ t.requested .linkChanged) ∧
      (s.fl.sinceReference < t.fl.linkTimeout ∨ s.fl.lane = .aligned ∨ s.fl.lane = .lost →
        t.tb = s.tb ∧ t.nu = s.nu ∧ t.et = s.et ∧ t.er = s.er) ∧
      s.responded t 28 .done [t.fl.linkTimeout, t.fl.lane.code] ∧
      t.cc = s.cc ∧ t.ct = s.ct ∧ t.re = s.re ∧ t.ps = s.ps ∧ t.iu = s.iu ∧ t.tb.now = s.tb.now

/-- STANDBY is refused STATE unless the lane is LOST; accepted, the part is in STANDBY with the countdown at the wake
timer setting (absent for 0), the ring empty, the check and silence counts 0 and DONE placed (R150, R174). -/
def Obligations.StandbyOnlyInLost : Prop :=
  ∀ s : State, s.Free →
    (s.fl.lane ≠ .lost → exec .standby s = .next (s.begin.answered 27 .state [])) ∧
    (s.fl.lane = .lost → exec .standby s = .next ((((s.begin.withTb { s.tb with
        power := .standby, countdown := if s.tb.wakeTimer = 0 then none else some s.tb.wakeTimer }).withFl
      { s.fl with checkCount := 0, silence := 0 }).withCe
      { s.ce with ring := [], completeHalves := 0, ready := false }).answered 27 .done []))

/-! ## Channel and profile commands -/

/-- SET CHANNEL with a slot selector (R3, R5, R6): the five tests in order; an accepted write changes that slot's entry
alone, gain and offset going to the pending pair in STARTING and RUNNING, and DONE carries the entry, in the model's
words: the pending pair is one optional part (assumption 17), an offset a signed word (assumption 18). -/
def Obligations.SetChannelWritesOneSlot : Prop :=
  ∀ (s : State) (i : Fin 8) (f : ChannelFields) (sel : BitVec 16), s.Free → sel.toNat = i.val + 1 →
    ((listed roleOfCode f.role && listed annotationOfCode f.annotation) = false →
      exec (.setChannel sel f) s = .next (s.begin.answered 4 .invalid [])) ∧
    ((listed roleOfCode f.role && listed annotationOfCode f.annotation) = true →
      (f.role.isSome = true → s.cc.measurement ≠ .stopped →
        exec (.setChannel sel f) s = .next (s.begin.answered 4 .state [])) ∧
      (∀ v r, f.role = some v → roleOfCode v = some r → s.cc.measurement = .stopped → r ≠ .pass →
        (∃ j : Fin 8, j ≠ i ∧ s.cc.table[j].role = r) →
        exec (.setChannel sel f) s = .next (s.begin.answered 4 .invalid [])) ∧
      ((f.role = none ∨ s.cc.measurement = .stopped ∧ ∃ v r, f.role = some v ∧ roleOfCode v = some r ∧
          (r = .pass ∨ ∀ j : Fin 8, j ≠ i → s.cc.table[j].role ≠ r)) →
        exec (.setChannel sel f) s = .next ((s.begin.withCc { s.cc with
          table := s.cc.table.set i (s.cc.table[i].write s.cc.measurement.measuring f) }).answered 4 .done
            (slotWords (s.cc.table[i].write s.cc.measurement.measuring f)))))

/-- What a write does to one entry, for any of the fields present (R5, R6): role and annotation mode at once, peak
threshold at once, clamped to 1 to 255; gain clamped to 1 to 1,048,575 and offset to −1,048,576 to 1,048,575, in force at
once outside measurement. While measuring they go to the pending pair, which begins as the pair in force where there is
none, and the pair in force stays. A field that is absent leaves its item as it is. -/
def Obligations.EntryWriteClampsAndWaits : Prop :=
  ∀ (e : ChannelEntry) (m : Bool) (f : ChannelFields),
    (f.role = none → (e.write m f).role = e.role) ∧
    (∀ v r, f.role = some v → roleOfCode v = some r → (e.write m f).role = r) ∧
    (f.annotation = none → (e.write m f).annotation = e.annotation) ∧
    (∀ v a, f.annotation = some v → annotationOfCode v = some a → (e.write m f).annotation = a) ∧
    (f.peak = none → (e.write m f).peak = e.peak) ∧
    (∀ v : BitVec 24, f.peak = some v → (e.write m f).peak = max 1 (min v.toNat 255)) ∧
    (f.gain = none → f.offset = none → (e.write m f).gain = e.gain ∧ (e.write m f).offset = e.offset ∧
      (e.write m f).awaiting = e.awaiting) ∧
    (m = false → (e.write m f).awaiting = e.awaiting ∧
      (f.gain = none → (e.write m f).gain = e.gain) ∧
      (∀ g : BitVec 24, f.gain = some g → (e.write m f).gain = max 1 (min g.toNat 1048575)) ∧
      (f.offset = none → (e.write m f).offset = e.offset) ∧
      (∀ o : BitVec 24, f.offset = some o → (e.write m f).offset = max (-1048576) (min o.toInt 1048575))) ∧
    (m = true → (e.write m f).gain = e.gain ∧ (e.write m f).offset = e.offset ∧
      (f.gain.isSome = true ∨ f.offset.isSome = true → ∃ q, (e.write m f).awaiting = some q ∧
        (∀ g : BitVec 24, f.gain = some g → q.gain = max 1 (min g.toNat 1048575)) ∧
        (∀ o : BitVec 24, f.offset = some o → q.offset = max (-1048576) (min o.toInt 1048575)) ∧
        (∀ a, e.awaiting = some a → (f.gain = none → q.gain = a.gain) ∧ (f.offset = none → q.offset = a.offset)) ∧
        (e.awaiting = none → (f.gain = none → q.gain = e.gain) ∧ (f.offset = none → q.offset = e.offset))))

/-- SET CHANNEL with selector ALL: refused INVALID with a role field or an unlisted annotation mode; else every slot
with an evaluated role is written, every PASS slot left, and DONE carries the number of slots written; any other
selector is refused INVALID (R3, R4). That a message without a field counts every evaluated slot too is the model's
reading (assumption 22). -/
def Obligations.SetChannelBroadcast : Prop :=
  ∀ (s : State) (f : ChannelFields) (sel : BitVec 16), s.Free →
    (sel ≠ 0xFFFF#16 → (sel.toNat = 0 ∨ 8 < sel.toNat) →
      exec (.setChannel sel f) s = .next (s.begin.answered 4 .invalid [])) ∧
    ((f.role.isSome = true ∨ listed annotationOfCode f.annotation = false) →
      exec (.setChannel 0xFFFF#16 f) s = .next (s.begin.answered 4 .invalid [])) ∧
    (f.role = none → listed annotationOfCode f.annotation = true →
      exec (.setChannel 0xFFFF#16 f) s = .next ((s.begin.withCc { s.cc with
        table := s.cc.table.map (fun e => if e.role = .pass then e else e.write s.cc.measurement.measuring f) }).answered
          4 .done [(s.cc.table.toList.filter (fun e => e.role != .pass)).length]))

/-- GET CHANNEL, GET PROFILE and GET CLASSES (R7, R56, R93): the slot's five settings in force, with the pending pair
where there is one, or the whole table for ALL; the set that WRITE SET names, with the levels when it is the active one;
the class bounds, then for each cell of the part its number, code, action, count and lost-detail count, then the lock.
Any other selector is refused INVALID. Nothing changes. The order of the words is assumption 17's, the signed offset word
assumption 18's. -/
def Obligations.ReadBackCommandsChangeNothing : Prop :=
  ∀ (s : State) (sel : BitVec 16), s.Free →
    (∀ i : Fin 8, sel.toNat = i.val + 1 → exec (.getChannel sel) s = .next (s.begin.answered 5 .done
      (match s.cc.table[i].awaiting with
       | none => [0, s.cc.table[i].role.code, s.cc.table[i].gain, signedWord s.cc.table[i].offset,
           s.cc.table[i].annotation.code, s.cc.table[i].peak]
       | some p => [1, s.cc.table[i].role.code, s.cc.table[i].gain, signedWord s.cc.table[i].offset,
           s.cc.table[i].annotation.code, s.cc.table[i].peak, p.gain, signedWord p.offset]))) ∧
    (sel = 0xFFFF#16 → exec (.getChannel sel) s = .next (s.begin.answered 5 .done
      ((List.ofFn (fun i : Fin 8 => if s.cc.table[i].awaiting.isSome then 2 ^ i.val else 0)).sum ::
        (List.ofFn (fun i : Fin 8 =>
          [s.cc.table[i].role.code, s.cc.table[i].gain, signedWord s.cc.table[i].offset,
            s.cc.table[i].annotation.code, s.cc.table[i].peak] ++
          (match s.cc.table[i].awaiting with
           | none => []
           | some p => [p.gain, signedWord p.offset]))).flatten))) ∧
    (sel ≠ 0xFFFF#16 → (sel.toNat = 0 ∨ 8 < sel.toNat) →
      exec (.getChannel sel) s = .next (s.begin.answered 5 .invalid [])) ∧
    (∀ ps, (sel = 0xFFFF#16 ∧ ps = [.l1, .l2, .l3]) ∨ (sel = 1#16 ∧ ps = [.l1]) ∨ (sel = 2#16 ∧ ps = [.l2]) ∨
        (sel = 3#16 ∧ ps = [.l3]) →
      ∀ x, x = s.ps.get s.ps.write → exec (.getProfile sel) s = .next (s.begin.answered 7 .done
        ([(if s.ps.switchTo.isSome then 1 else 0) + (if s.ps.write = s.ps.active then 2 else 0), s.ps.write.code,
            s.ps.active.code] ++
          (match s.ps.switchTo with
           | none => []
           | some n => [n.code]) ++
          [x.nominal.hertz, (if x.mask.l1 then 1 else 0) + (if x.mask.l2 then 2 else 0) + (if x.mask.l3 then 4 else 0),
            x.neLimit, x.bandLow, x.bandHigh] ++
          (ps.map (fun p => [(x.phase.get p).unom, (x.phase.get p).intStart, (x.phase.get p).intEnd,
            (x.phase.get p).dipStart, (x.phase.get p).dipEnd, (x.phase.get p).swellEnd,
            (x.phase.get p).swellStart])).flatten ++
          (if s.ps.write = s.ps.active then
            (ps.map (fun p => [(s.ps.levels.get p).dipStart, (s.ps.levels.get p).dipEnd, (s.ps.levels.get p).intStart,
              (s.ps.levels.get p).intEnd, (s.ps.levels.get p).swellStart, (s.ps.levels.get p).swellEnd,
              (s.ps.levels.get p).bandLow, (s.ps.levels.get p).bandHigh])).flatten ++ [s.ps.neLevel]
           else [])))) ∧
    (sel ≠ 0xFFFF#16 → sel ≠ 1#16 → sel ≠ 2#16 → sel ≠ 3#16 →
      exec (.getProfile sel) s = .next (s.begin.answered 7 .invalid [])) ∧
    (∀ part, (sel = 1#16 ∧ part = List.range' 0 25) ∨ (sel = 2#16 ∧ part = List.range' 25 15) ∨
        (sel = 0xFFFF#16 ∧ part = List.range' 0 40) →
      exec (.getClasses sel) s = .next (s.begin.answered 11 .done
        ([s.cm.bounds.b1, s.cm.bounds.b2, s.cm.bounds.b3, s.cm.bounds.b4, s.cm.bounds.s1, s.cm.bounds.s2,
            s.cm.bounds.d1, s.cm.bounds.d2, s.cm.bounds.d3, s.cm.bounds.d4] ++
          (part.map (fun n => [n, (s.cm.cell n).code, (s.cm.cell n).action.code, (s.cm.cell n).count,
            (s.cm.cell n).lost])).flatten ++ [if s.er.locked then 1 else 0]))) ∧
    (sel ≠ 1#16 → sel ≠ 2#16 → sel ≠ 0xFFFF#16 →
      exec (.getClasses sel) s = .next (s.begin.answered 11 .invalid []))

/-- SET PROFILE (R51, R54): the tests in order; an accepted write changes the set named by WRITE SET alone, to the
clamped fields for the channels selected, and no level. A set is in order just when every phase channel keeps the chain
of R53, the band lies low to high and the mask is not empty; a write clamps each field present, the nominal voltage to
5,000 to 60,000 and the thresholds to 0 to 2,000, per-channel fields to the channels selected alone, and leaves the rest
(R52). DONE's words for ALL go channel by channel: the model's order (assumption 17). -/
def Obligations.SetProfileWritesTheSet : Prop :=
  (∀ (s : State) (sel : BitVec 16) (f : ProfileFields), s.Free →
    (phasesOfSelector sel = none → exec (.setProfile sel f) s = .next (s.begin.answered 6 .invalid [])) ∧
    ∀ ps, phasesOfSelector sel = some ps →
      (listed nominalOfCode f.nominal = false →
        exec (.setProfile sel f) s = .next (s.begin.answered 6 .invalid [])) ∧
      (listed nominalOfCode f.nominal = true → s.ps.write = s.ps.active →
        exec (.setProfile sel f) s = .next (s.begin.answered 6 .state [])) ∧
      (listed nominalOfCode f.nominal = true → s.ps.write ≠ s.ps.active →
        (((s.ps.get s.ps.write).write f ps).ordered = false →
          exec (.setProfile sel f) s = .next (s.begin.answered 6 .invalid [])) ∧
        (((s.ps.get s.ps.write).write f ps).ordered = true →
          exec (.setProfile sel f) s = .next
            ((s.begin.withPs (s.ps.put s.ps.write ((s.ps.get s.ps.write).write f ps))).answered 6 .done
              ((s.ps.put s.ps.write ((s.ps.get s.ps.write).write f ps)).setWords ps))))) ∧
  (∀ x : ThresholdSet, x.ordered = true ↔
    (∀ p : Phase, (x.phase.get p).intStart < (x.phase.get p).intEnd ∧ (x.phase.get p).intEnd ≤ (x.phase.get p).dipStart ∧
      (x.phase.get p).dipStart < (x.phase.get p).dipEnd ∧ (x.phase.get p).dipEnd ≤ 1000 ∧
      1000 ≤ (x.phase.get p).swellEnd ∧ (x.phase.get p).swellEnd < (x.phase.get p).swellStart) ∧
    x.bandLow < x.bandHigh ∧ ∃ p : Phase, x.mask.get p = true) ∧
  ∀ (x y : ThresholdSet) (f : ProfileFields) (ps : List Phase), y = x.write f ps →
    (f.nominal = none → y.nominal = x.nominal) ∧ (f.nominal = some 50#24 → y.nominal = .hz50) ∧
    (f.nominal = some 60#24 → y.nominal = .hz60) ∧ (f.mask = none → y.mask = x.mask) ∧
    (∀ v, f.mask = some v → y.mask = ⟨v.getLsbD 0, v.getLsbD 1, v.getLsbD 2⟩) ∧
    ClampedTo 0 2000 f.neLimit x.neLimit y.neLimit ∧ ClampedTo 0 2000 f.bandLow x.bandLow y.bandLow ∧
    ClampedTo 0 2000 f.bandHigh x.bandHigh y.bandHigh ∧
    ∀ p : Phase, (p ∉ ps → y.phase.get p = x.phase.get p) ∧ (p ∈ ps →
      ClampedTo 5000 60000 f.unom (x.phase.get p).unom (y.phase.get p).unom ∧
      ClampedTo 0 2000 f.intStart (x.phase.get p).intStart (y.phase.get p).intStart ∧
      ClampedTo 0 2000 f.intEnd (x.phase.get p).intEnd (y.phase.get p).intEnd ∧
      ClampedTo 0 2000 f.dipStart (x.phase.get p).dipStart (y.phase.get p).dipStart ∧
      ClampedTo 0 2000 f.dipEnd (x.phase.get p).dipEnd (y.phase.get p).dipEnd ∧
      ClampedTo 0 2000 f.swellEnd (x.phase.get p).swellEnd (y.phase.get p).swellEnd ∧
      ClampedTo 0 2000 f.swellStart (x.phase.get p).swellStart (y.phase.get p).swellStart)

/-- SELECT WRITE SET (R55): WRITE SET becomes the set named. SWITCH PROFILE (R57): the active set as target leaves no
switch pending, the other set leaves that switch pending (R50). Both answer DONE with WRITE SET, ACTIVE SET and the
pending switch as they then stand, for SWITCH PROFILE in the model's order (assumption 17), in every measurement state;
any other selector is refused INVALID; both sets, ACTIVE SET and the levels are as they were. -/
def Obligations.SetPointersMove : Prop :=
  ∀ (s : State) (sel : BitVec 16) (n : SetName), s.Free →
    (sel.toNat = n.code → exec (.selectWriteSet sel) s = .next ((s.begin.withPs { s.ps with write := n }).answered
      8 .done (match s.ps.switchTo with
        | none => [0, n.code, s.ps.active.code]
        | some m => [1, n.code, s.ps.active.code, m.code]))) ∧
    (sel ≠ 1#16 → sel ≠ 2#16 → exec (.selectWriteSet sel) s = .next (s.begin.answered 8 .invalid [])) ∧
    (sel.toNat = n.code → n = s.ps.active → exec (.switchProfile sel) s = .next
      ((s.begin.withPs { s.ps with switchTo := none }).answered 9 .done [0, s.ps.write.code, s.ps.active.code])) ∧
    (sel.toNat = n.code → n ≠ s.ps.active → exec (.switchProfile sel) s = .next
      ((s.begin.withPs { s.ps with switchTo := some n }).answered 9 .done
        [1, s.ps.write.code, s.ps.active.code, n.code])) ∧
    (sel ≠ 1#16 → sel ≠ 2#16 → exec (.switchProfile sel) s = .next (s.begin.answered 9 .invalid []))

/-! ## Classes and events -/

/-- SET CLASSES (R91): refused INVALID unless every cell exists, every action is listed, no cell is named twice and the
bounds as they would stand are strictly ordered, the dip bounds descending, the swell and duration bounds ascending;
accepted, it changes the Class Matrix alone, keeps every count, writes the bounds present, those of dips and swells
clamped to 0 to 2,000, and each cell named, and DONE carries the bounds and the cells named, which go without a count
word in the message's order: the model's choice (assumption 17). -/
def Obligations.SetClassesKeepsCounts : Prop :=
  (∀ (s : State) (f : ClassFields), s.Free →
    ((cellsExist f && actionsListed f && noTwice (cellNumbers f) && (s.cm.bounds.write f).ordered) = false →
      exec (.setClasses f) s = .next (s.begin.answered 10 .invalid [])) ∧
    ((cellsExist f && actionsListed f && noTwice (cellNumbers f) && (s.cm.bounds.write f).ordered) = true →
      ∃ m : ClassMatrix, exec (.setClasses f) s = .next ((s.begin.withCm m).answered 10 .done
          (m.setWords (cellNumbers f))) ∧ m.bounds = s.cm.bounds.write f ∧ m.bounds.ordered = true ∧
        (∀ i : Fin 40, m.cells[i].count = s.cm.cells[i].count ∧ m.cells[i].lost = s.cm.cells[i].lost) ∧
        (∀ i : Fin 40, (∀ e ∈ f.cells, e.cell.toNat ≠ i.val) → m.cells[i] = s.cm.cells[i]) ∧
        (∀ e ∈ f.cells, ∀ i : Fin 40, e.cell.toNat = i.val →
          m.cells[i].code = clampedOr 0 255 e.code s.cm.cells[i].code ∧
          m.cells[i].action = (e.action.bind actionOfCode).getD s.cm.cells[i].action))) ∧
  (∀ b : ClassBounds, b.ordered = true ↔ b.b4 < b.b3 ∧ b.b3 < b.b2 ∧ b.b2 < b.b1 ∧ b.s1 < b.s2 ∧ b.d1 < b.d2 ∧
    b.d2 < b.d3 ∧ b.d3 < b.d4) ∧
  ∀ (b c : ClassBounds) (f : ClassFields), c = b.write f →
    ClampedTo 0 2000 f.b1 b.b1 c.b1 ∧ ClampedTo 0 2000 f.b2 b.b2 c.b2 ∧ ClampedTo 0 2000 f.b3 b.b3 c.b3 ∧
    ClampedTo 0 2000 f.b4 b.b4 c.b4 ∧ ClampedTo 0 2000 f.s1 b.s1 c.s1 ∧ ClampedTo 0 2000 f.s2 b.s2 c.s2 ∧
    WrittenTo f.d1 b.d1 c.d1 ∧ WrittenTo f.d2 b.d2 c.d2 ∧ WrittenTo f.d3 b.d3 c.d3 ∧ WrittenTo f.d4 b.d4 c.d4 ∧
    (cellsExist f = true ↔ ∀ e ∈ f.cells, e.cell.toNat ≤ 39) ∧
    (actionsListed f = true ↔ ∀ e ∈ f.cells, ∀ v, e.action = some v → v.toNat ≤ 2) ∧
    (noTwice (cellNumbers f) = true ↔ (f.cells.map (fun e => e.cell.toNat)).Nodup)

/-- CLEAR COUNTS (R94): with the lock clear every count and lost-detail count becomes 0 and the rest of the matrix and
the register stay; with the lock set it is refused LOCKED and nothing changes. RETAIN (R102) sets the lock, again where
it is set, and answers DONE with the number of records held. -/
def Obligations.ClearCountsUnlessLocked : Prop :=
  ∀ s : State, s.Free →
    (s.er.locked = false → ∃ m : ClassMatrix,
      exec .clearCounts s = .next ((s.begin.withCm m).answered 12 .done []) ∧ m.bounds = s.cm.bounds ∧
      ∀ i : Fin 40, m.cells[i] = { s.cm.cells[i] with count := 0, lost := 0 }) ∧
    (s.er.locked = true → exec .clearCounts s = .next (s.begin.answered 12 .locked [])) ∧
    exec .retain s = .next ((s.begin.withEr { s.er with locked := true }).answered 15 .done [s.er.records.length])

/-- READ EVENTS, READ INTERVALS and READ SUMMARIES place a first stream item or an end message, change nothing that is
stored, and leave the Command Unit STREAMING; an unlisted filter of READ EVENTS is refused INVALID. The first item is the
first record from the ident or index of the field on that the filter admits, or the oldest summary; the count is clamped
to the store's size, which it is where the field is absent; where there is no such item, the end message tells it (R104,
R147, R148; the presence bit of an absent oldest index is the model's, assumption 35). -/
def Obligations.ReadsBeginAStream : Prop :=
  ∀ (s : State) (f : ReadEventsFields) (g : ReadIntervalsFields), s.Free →
    (listed filterOfCode f.filter = false → exec (.readEvents f) s = .next (s.begin.answered 13 .invalid [])) ∧
    ∀ (c : Instr) (code : Nat),
      (c = .readEvents f ∧ listed filterOfCode f.filter = true ∧ code = 13) ∨ (c = .readIntervals g ∧ code = 21) ∨
        (c = .readSummaries ∧ code = 23) →
      ∃ t x, exec c s = .next t ∧ s.sameBlocks t ∧ t.ra.responses = s.ra.responses ++ [x] ∧ x.code = code ∧
        x.status = .done ∧ x.form ≠ .single ∧ t.cu.state = .streaming ∧
        (c = .readEvents f → ∀ filter,
          filter = (if f.filter = some 1#24 then EventFilter.unreported else EventFilter.all) →
          s.EventsNext (match f.fromIdent with
            | none => 1
            | some y => max 1 y.toNat) (match f.count with
            | none => 512
            | some y => max 1 (min y.toNat 512)) filter 0 none x t.cu.stream) ∧
        (c = .readIntervals g → s.IntervalsNext (match g.fromIndex with
            | none => 0
            | some y => y.toNat) (match g.count with
            | none => 1008
            | some y => max 1 (min y.toNat 1008)) 0 none x t.cu.stream) ∧
        (c = .readSummaries → s.SummariesNext s.iu.summariesGone x t.cu.stream)

/-- RELEASE EVENTS (R103): refused LOCKED with an up-to ident under the lock; else every CLOSED record up to it is
removed, in order, and no other; DONE carries the numbers removed and held. A watermark field is clamped, written and
then evaluated; without an up-to ident the command is taken whether or not the lock is set and moves only it. That DONE
then carries 0 and the number held is the model's choice (assumption 38), as is the order of both fields' effects
(assumption 32). -/
def Obligations.ReleaseEventsRemovesClosed : Prop :=
  ∀ (s : State) (x : BitVec 32) (w : Option (BitVec 24)) (v : BitVec 24), s.Free →
    (s.er.locked = true →
      exec (.releaseEvents { upTo := some x, watermark := w }) s = .next (s.begin.answered 14 .locked [])) ∧
    (s.er.locked = false → ∃ t, exec (.releaseEvents { upTo := some x, watermark := w }) s = .next t ∧
      t.er.records = s.er.records.filter (fun r => !(r.closed && decide (r.ident ≤ x.toNat))) ∧
      t.er.nextIdent = s.er.nextIdent ∧ t.er.locked = false ∧
      t.er.watermark = (match w with
        | none => s.er.watermark
        | some y => max 1 (min y.toNat 512)) ∧
      (w = none → t.nu = s.nu) ∧
      (w.isSome = true → t.er.watermark ≤ t.er.records.length → t.requested .registerWatermark) ∧
      s.responded t 14 .done [s.er.records.length - t.er.records.length, t.er.records.length] ∧
      t.cm = s.cm ∧ t.ce = s.ce ∧ t.et = s.et) ∧
    exec (.releaseEvents {}) s = .next (s.begin.answered 14 .done [0, s.er.records.length]) ∧
    ∃ t, exec (.releaseEvents { watermark := some v }) s = .next t ∧
      t.er = { s.er with watermark := max 1 (min v.toNat 512) } ∧
      (t.requested .registerWatermark ↔ s.requested .registerWatermark ∨ t.er.watermark ≤ s.er.records.length) ∧
      s.responded t 14 .done [0, s.er.records.length]

/-! ## Captures, intervals, time, reports, notices -/

/-- SET CAPTURE (R113): an unlisted mode refuses the whole message; else the settings are clamped and written, F 4 and
T 16 taking the place of a pair with T below 2F, SPANS_DEFAULTED raised then; the
trigger-ready flag is tested anew where W is written (R109); DONE carries all eight. -/
def Obligations.SetCaptureChecksTheDuty : Prop :=
  ∀ (s : State) (f : CaptureFields), s.Free →
    (listed modeOfCode f.mode = false → exec (.setCapture f) s = .next (s.begin.answered 16 .invalid [])) ∧
    (listed modeOfCode f.mode = true → ∃ t, exec (.setCapture f) s = .next t ∧
      t.ce.settings.pre = clampedOr 1 8 f.pre s.ce.settings.pre ∧
      t.ce.settings.factor = clampedOr 2 64 f.factor s.ce.settings.factor ∧
      t.ce.settings.post = clampedOr 1 64 f.post s.ce.settings.post ∧
      t.ce.settings.manual = clampedOr 1 1024 f.manual s.ce.settings.manual ∧
      t.ce.settings.maxBlocks = clampedOr 1 128 f.maxBlocks s.ce.settings.maxBlocks ∧
      (if 2 * clampedOr 1 64 f.full s.ce.settings.full ≤ clampedOr 1 1024 f.thin s.ce.settings.thin then
        t.ce.settings.full = clampedOr 1 64 f.full s.ce.settings.full ∧
        t.ce.settings.thin = clampedOr 1 1024 f.thin s.ce.settings.thin ∧ t.nu = s.nu
       else t.ce.settings.full = 4 ∧ t.ce.settings.thin = 16 ∧ t.requested .spansDefaulted) ∧
      t.ce.settings.mode = (f.mode.bind modeOfCode).getD s.ce.settings.mode ∧
      t.ce.ready = (if f.pre.isSome then
        (s.cc.measurement == .running && decide (t.ce.settings.pre ≤ s.ce.completeHalves)) else s.ce.ready) ∧
      s.responded t 16 .done t.ce.settings.words ∧
      t.ce.directory = s.ce.directory ∧ t.ce.fill = s.ce.fill ∧ t.ce.free = s.ce.free ∧ t.er = s.er)

/-- TRIGGER (R125): STATE in AUTO; NOT_READY without the trigger-ready flag, with a capture FILLING, or without room;
else a MANUAL capture with decision KEEP is FILLING at the end of the directory, started at the present device time (the
order number of the refusing test is the words' content, assumption 17). In every state that keeps the law of the blocks
(StepKeepsBlocksOnce) its PRE span is stored whole: evictions in directory order as far as they are needed and no
further (R120), blocks from the head of the free list (R110), filled from the ring oldest entry first in blocks of R111,
every other block and the ring as they were, and the fill state at the start of a FULL span (R112, R117). Where not even
the half cycle in progress fits the maximum it is copied alone (assumption 23). -/
def Obligations.TriggerStartsManualCapture : Prop :=
  ∀ s : State, s.Free →
    (s.ce.settings.mode = .auto → exec .trigger s = .next (s.begin.answered 17 .state [])) ∧
    (s.ce.settings.mode = .manual →
      (s.ce.ready = false → exec .trigger s = .next (s.begin.answered 17 .notReady [2])) ∧
      (s.ce.ready = true → s.ce.filling.isSome = true →
        exec .trigger s = .next (s.begin.answered 17 .notReady [3])) ∧
      (s.ce.ready = true → s.ce.filling.isSome = false → s.ce.canStart = false →
        exec .trigger s = .next (s.begin.answered 17 .notReady [4])) ∧
      (s.ce.ready = true → s.ce.filling.isSome = false → s.ce.canStart = true →
        ∃ t c, exec .trigger s = .next t ∧ t.ce.directory.getLast? = some c ∧ c.origin = .manual ∧ c.state = .filling ∧
          c.decision = .keep ∧ c.start = s.tb.now ∧ c.joined = [] ∧
          s.responded t 17 .done [c.ident, c.preHeld, c.blocks.length] ∧ t.tb = s.tb ∧ t.cc = s.cc ∧ t.iu = s.iu ∧
          t.ce.ring = s.ce.ring ∧ t.ce.settings = s.ce.settings ∧ (s.BlocksOnce → s.Starts t c)))

/-- READ CAPTURE and RELEASE CAPTURE: the tests in order (R127, R129); an accepted readout makes the capture READING and
queues one message for each block of this capture in the order k, k + 1, to the last, then 0 to k − 1, k being 0 where it
is absent, and DONE carries the ident, the number of blocks and k; an accepted release removes the entry, returns its
blocks to the tail of the free list, takes the capture out of the records that name it (R105), and DONE carries the free
blocks. The words' order is the model's (assumption 17). -/
def Obligations.CaptureReadAndRelease : Prop :=
  ∀ (s : State) (n : BitVec 16) (v : Option (BitVec 24)) (k : Nat), s.Free →
    k = (match v with
      | none => 0
      | some x => x.toNat) →
    (s.ce.find n.toNat = none →
      exec (.readCapture n v) s = .next (s.begin.answered 19 .notFound []) ∧
      exec (.releaseCapture n) s = .next (s.begin.answered 20 .notFound [])) ∧
    ∀ c, s.ce.find n.toNat = some c →
      (c.state = .filling ∨ s.ce.reading = true →
        exec (.readCapture n v) s = .next (s.begin.answered 19 .busy [])) ∧
      (c.state ≠ .filling → s.ce.reading = false → c.blocks.length ≤ k →
        exec (.readCapture n v) s = .next (s.begin.answered 19 .invalid [])) ∧
      (c.state ≠ .filling → s.ce.reading = false → k < c.blocks.length →
        ∃ t q, exec (.readCapture n v) s = .next t ∧
          t.ce.find n.toNat = some { c with state := .reading } ∧ t.ra.blockQueue = s.ra.blockQueue ++ q ∧
          q.length = c.blocks.length ∧
          (∀ j, j < c.blocks.length → q[j]? = some ⟨n.toNat, (k + j) % c.blocks.length⟩) ∧
          s.responded t 19 .done [n.toNat, c.blocks.length, k] ∧
          t.ce.blocks = s.ce.blocks ∧ t.ce.free = s.ce.free ∧ t.ce.fill = s.ce.fill ∧ t.er = s.er ∧ t.nu = s.nu) ∧
      (c.state ≠ .settled → exec (.releaseCapture n) s = .next (s.begin.answered 20 .busy [])) ∧
      (c.state = .settled → c.decision = .priority → s.er.locked = true →
        exec (.releaseCapture n) s = .next (s.begin.answered 20 .locked [])) ∧
      (c.state = .settled → ¬(c.decision = .priority ∧ s.er.locked = true) →
        ∃ t, exec (.releaseCapture n) s = .next t ∧ t.ce.find n.toNat = none ∧ t.ce.free = s.ce.free ++ c.blocks ∧
          s.responded t 20 .done [t.ce.free.length] ∧
          c.ident = n.toNat ∧ s.er.Forgets t.er c ∧ t.nu = s.nu)

/-- SET OBSERVATION (R145, R146): without a field it only answers; with one and no change of length a new period begins
with the clamped settings and the open interval runs on; with a change of length the open interval closes and a new one
opens at the present time under the new length. The closing interval closes in both cases (the model's reading of R146,
assumption 11), in the old period, which it may complete (R143, R144); the open interval's early close carries TIME_STEP
and its span up to this moment, its record being appended and its push offered, but it is counted in no period (R138,
R139, R188). The running period is abandoned: every counter is 0, and no summary is formed of it. A length is rounded
down to the nearest of the twelve lengths, below 60 up to 60 (R131, R145). DONE carries the four settings, the index and
the end E of the open interval in the model's words (assumption 17), an E of 2^32 s or more modulo 2^32 (assumption 34).
-/
def Obligations.SetObservationBeginsPeriod : Prop :=
  ∀ (s : State) (f : ObservationFields), s.Free →
    (someObservation f = false → exec (.setObservation f) s = .next (s.begin.answered 22 .done
      [s.iu.length, s.iu.period, s.iu.allowance, s.iu.coverage, s.iu.current.index, s.iu.current.endSec, 0])) ∧
    (someObservation f = true → ∃ t, exec (.setObservation f) s = .next t ∧ t.iu.closing = none ∧
      t.iu.periodClosed = 0 ∧ t.iu.firstIndex = none ∧ t.iu.length = lengthOr f.length s.iu.length ∧
      t.iu.period = clampedOr 1 4032 f.period s.iu.period ∧
      t.iu.allowance = clampedOr 0 1000 f.allowance s.iu.allowance ∧
      t.iu.coverage = clampedOr 0 1000 f.coverage s.iu.coverage ∧
      (f.length = none → t.iu.length = s.iu.length) ∧
      (∀ x, f.length = some x → t.iu.length ∈ [60, 120, 180, 240, 300, 360, 600, 720, 900, 1200, 1800, 3600] ∧
        (x.toNat < 60 → t.iu.length = 60) ∧ (60 ≤ x.toNat → t.iu.length ≤ x.toNat ∧
          ∀ l ∈ [60, 120, 180, 240, 300, 360, 600, 720, 900, 1200, 1800, 3600], l ≤ x.toNat → l ≤ t.iu.length)) ∧
      (∀ p : Phase, t.iu.counters.get p = ⟨0, 0, 0, 0, 0, 0⟩) ∧ s.EndsPeriod t s s.iu.closing.toList ∧
      (s.iu.closing = none ∨ s.iu.periodClosed + 1 < s.iu.period → t.iu.summaries = s.iu.summaries) ∧
      (∀ vs, vs = s.iu.closing.toList ++ (if t.iu.length = s.iu.length then [] else
          [s.iu.current.mark .timeStep true]) →
        s.Logs t s vs ∧ s.OffersPushes t vs s.ra.intervalPushes t.ra.intervalPushes ∧
        (vs ≠ [] → t.requested .intervalClosed)) ∧
      (lengthOr f.length s.iu.length = s.iu.length → t.iu.current = s.iu.current) ∧
      (lengthOr f.length s.iu.length ≠ s.iu.length → t.iu.current.start = s.tb.now ∧
        t.iu.current.length = lengthOr f.length s.iu.length ∧ t.requested .intervalClosed) ∧
      s.responded t 22 .done [t.iu.length, t.iu.period, t.iu.allowance, t.iu.coverage, t.iu.current.index,
        t.iu.current.endSec, 0] ∧ t.tb = s.tb ∧ t.cc = s.cc ∧ t.et = s.et ∧ t.er = s.er)

/-- SET TIME (R171, R140): without seconds refused INVALID; else device time is the new time, the time-unset flag is
clear, a new interval is open at the new time; a TIMESTEP event takes an ident just when the time was already set, and
the open event and the source stay as they are. A closing interval closes first (R137); then the open one closes with
TIME_STEP and its span up to this moment (R140 step 3). Each close makes its record, counts in the observation period,
which it may complete, and offers its push (R138, R139, R142, R143, R144, R188); the new interval has the next index and
the length in force (R132). The order of DONE's words, and its last word as the mark that a TIMESTEP event arose, stored
or not, are the model's (assumption 17). -/
def Obligations.SetTimeStepsTheClock : Prop :=
  ∀ (s : State) (tick : Option (BitVec 24)), s.Free →
    exec (.setTime { tick := tick }) s = .next (s.begin.answered 24 .invalid []) ∧
    ∀ sec : BitVec 32, ∃ t, exec (.setTime { seconds := some sec, tick := tick }) s = .next t ∧
      t.tb = { s.tb with now := ⟨sec.toNat, (match tick with
        | none => 0
        | some v => min v.toNat 12799)⟩, unset := false } ∧
      t.iu.current.start = t.tb.now ∧ t.iu.closing = none ∧ t.et = s.et ∧ t.cc = s.cc ∧ t.fl = s.fl ∧ t.ce = s.ce ∧
      t.requested .intervalClosed ∧ t.iu.current.length = s.iu.length ∧ t.iu.current.span = 0 ∧
      (s.iu.current.index < 4294967295 → t.iu.current.index = s.iu.current.index + 1) ∧
      (∀ vs, vs = s.iu.closing.toList ++ [s.iu.current.mark .timeStep true] → s.MakesCloses t s vs ∧
        s.OffersPushes t vs s.ra.intervalPushes t.ra.intervalPushes) ∧
      (s.tb.unset = true → t.er = s.er) ∧
      (s.tb.unset = false → s.er.nextIdent < 4294967295 → t.er.nextIdent = s.er.nextIdent + 1) ∧
      s.responded t 24 .done [s.tb.now.sec, s.tb.now.tick, t.tb.now.sec, t.tb.now.tick, if s.tb.unset then 0 else 1]

/-- SET WAKE, SET REPORTS, SET NOTICES and ACK NOTICES (R176, R186, R190, R192): the timer is clamped to 65,535 and the
enables go by bit 0; levels are clamped to 0 to 3; the notice enables are replaced and a notice queued where one is due;
the requests named are cleared; each answers DONE with what then stands. That bits 13 to 23 of the enable set and of the
cause set are ignored is the model's choice (assumption 36: R190 and R192 say nothing of them). -/
def Obligations.WakeReportAndNoticeSettings : Prop :=
  ∀ (s : State) (g : WakeFields) (f : ReportFields) (v : BitVec 24), s.Free →
    (∃ timer inb, exec (.setWake g) s = .next ((s.begin.withTb { s.tb with
        wakeTimer := timer, inboundWake := inb }).answered 26 .done [timer, if inb then 1 else 0]) ∧
      timer = clampedOr 0 65535 g.timer s.tb.wakeTimer ∧
      inb = (match g.inbound with
        | none => s.tb.inboundWake
        | some x => x.getLsbD 0)) ∧
    (∃ r : ReportArbiter, exec (.setReports f) s = .next ((s.begin.withRa r).answered 29 .done
        [r.levels.response, r.levels.notice, r.levels.event, r.levels.interval, r.levels.capture,
          if r.eventPushOn then 1 else 0, if r.intervalPushOn then 1 else 0]) ∧
      r.levels.response = clampedOr 0 3 f.response s.ra.levels.response ∧
      r.levels.notice = clampedOr 0 3 f.notice s.ra.levels.notice ∧
      r.levels.event = clampedOr 0 3 f.event s.ra.levels.event ∧
      r.levels.interval = clampedOr 0 3 f.interval s.ra.levels.interval ∧
      r.levels.capture = clampedOr 0 3 f.capture s.ra.levels.capture ∧
      r.eventPushOn = (match f.eventOn with
        | none => s.ra.eventPushOn
        | some x => x.getLsbD 0) ∧
      r.intervalPushOn = (match f.intervalOn with
        | none => s.ra.intervalPushOn
        | some x => x.getLsbD 0) ∧
      r.responses = s.ra.responses ∧ r.eventPushes = s.ra.eventPushes ∧ r.intervalPushes = s.ra.intervalPushes ∧
      r.blockQueue = s.ra.blockQueue ∧ r.sending = s.ra.sending) ∧
    exec (.setNotices none) s =
      .next (s.begin.answered 30 .done [s.nu.enables.toNat, s.nu.requests.toNat]) ∧
    exec (.setNotices (some v)) s = .next ((s.begin.withNu { s.nu with
        enables := v.setWidth 13, queued := s.nu.queued || (s.nu.requests &&& v.setWidth 13 != 0) }).answered 30 .done
      [(v.setWidth 13 : BitVec 13).toNat, s.nu.requests.toNat]) ∧
    exec (.ackNotices none) s = .next (s.begin.answered 31 .done [s.nu.requests.toNat]) ∧
    exec (.ackNotices (some v)) s = .next ((s.begin.withNu { s.nu with
        requests := s.nu.requests &&& ~~~(v.setWidth 13) }).answered 31 .done
      [(s.nu.requests &&& ~~~(v.setWidth 13)).toNat])

/-- The commands that only read (R126, R173, R185): GET TIME, whose data wait for the grant, LIST CAPTURES, its list in
the model's words (assumption 17), GET STATUS, its items in the order of R185 behind a presence word for the last wake
cause and the pending switch (R180), and IDENTIFY are answered DONE and change nothing. A RECORDER message with
a code that names no command is answered UNKNOWN; a FRONT END message is answered RELAYED at once when it is empty, and
else waits in the relay buffer with the Command Unit EXECUTING (R165, R182). -/
def Obligations.PlainAnswersAndRelay : Prop :=
  ∀ (s : State) (code : BitVec 7) (w : BitVec 32) (ws : List (BitVec 32)), s.Free →
    exec .listCaptures s = .next (s.begin.answered 18 .done s.ce.listWords) ∧
    exec .getTime s = .next ((s.begin.withRa { s.ra with responses := s.ra.responses ++
      [{ form := .single, code := 25, status := .done, body := .timeAtGrant }] }).withCu s.cu.answered) ∧
    exec .getStatus s = .next (s.begin.answered 32 .done s.statusWords) ∧
    s.statusWords = [(if s.tb.lastWake.isSome then 1 else 0) + (if s.ps.switchTo.isSome then 2 else 0),
        s.cc.measurement.code, s.ct.state.code, s.fl.lane.code, s.tb.source.code, s.tb.power.code] ++
      (match s.tb.lastWake with
       | none => []
       | some x => [x.code]) ++
      (match s.ps.switchTo with
       | none => []
       | some n => [n.code]) ++
      [if s.er.locked then 1 else 0, s.er.records.length, s.ce.free.length, if s.ce.ready then 1 else 0,
        s.nu.requests.toNat, s.nu.enables.toNat] ∧
    exec .identify s = .next (s.begin.answered 33 .done [27, 441, 2]) ∧
    exec (.unknownCommand code) s = .next (s.begin.answered code.toNat .unknown []) ∧
    exec (.frontEndRelay code []) s = .next (s.begin.answered code.toNat .relayed []) ∧
    exec (.frontEndRelay code (w :: ws)) s = .next ((s.begin.withFl { s.fl with relay := w :: ws }).withCu
      { s.cu with state := .executing, buffer := [], work := .relaying code.toNat })

/-! ## Arithmetic and tables -/

/-- The exact test (R37): 0 when 4Q < N, else the one r of at least 1 with N(2r − 1)² ≤ 4Q < N(2r + 1)². -/
def Obligations.ExactTestRoundsTheRoot : Prop :=
  ∀ q n : Nat, 1 ≤ n →
    (4 * q < n → exactRoot q n = 0) ∧
    (n ≤ 4 * q → 1 ≤ exactRoot q n ∧ n * (2 * exactRoot q n - 1) ^ 2 ≤ 4 * q ∧ 4 * q < n * (2 * exactRoot q n + 1) ^ 2 ∧
      ∀ r, 1 ≤ r → n * (2 * r - 1) ^ 2 ≤ 4 * q → 4 * q < n * (2 * r + 1) ^ 2 → r = exactRoot q n)

/-- Every scaled sample lies in −100,000 to +100,000 cV, and is the product rounded half away from zero where that lies
in the range (R8). -/
def Obligations.ScaledSampleInRange : Prop :=
  ∀ (gain : Nat) (offset : Int) (raw : BitVec 24),
    -100000 ≤ scaleSample gain offset raw ∧ scaleSample gain offset raw ≤ 100000 ∧
    ((0 ≤ (raw.toInt - offset) * gain ∧
        65536 * (2 * scaleSample gain offset raw - 1) ≤ 2 * ((raw.toInt - offset) * gain) ∧
        2 * ((raw.toInt - offset) * gain) < 65536 * (2 * scaleSample gain offset raw + 1)) ∨
      ((raw.toInt - offset) * gain < 0 ∧
        65536 * (2 * scaleSample gain offset raw - 1) < 2 * ((raw.toInt - offset) * gain) ∧
        2 * ((raw.toInt - offset) * gain) ≤ 65536 * (2 * scaleSample gain offset raw + 1)) ∨
      (scaleSample gain offset raw = 100000 ∧ 65536 * 100000 < (raw.toInt - offset) * gain) ∨
      (scaleSample gain offset raw = -100000 ∧ (raw.toInt - offset) * gain < -(65536 * 100000)))

/-- The detector table (R65). -/
def Obligations.DetectorFollowsItsTable : Prop :=
  ∀ (v : Levels) (r : Nat),
    (Detector.normal.test v r = if r < v.intStart then .intr else if r < v.dipStart then .dip
      else if v.swellStart < r then .swell else .normal) ∧
    (Detector.dip.test v r = if r < v.intStart then .intr else if v.swellStart < r then .swell
      else if v.dipEnd ≤ r then .normal else .dip) ∧
    (Detector.intr.test v r = if r < v.intEnd then .intr else if r < v.dipEnd then .dip
      else if v.swellStart < r then .swell else .normal) ∧
    (Detector.swell.test v r = if r < v.intStart then .intr else if r < v.dipStart then .dip
      else if r ≤ v.swellEnd then .normal else .swell)

/-- Rows and columns of the Class Matrix (R88): with strictly ordered bounds each permille falls in exactly the row and
each duration in exactly the column that the table gives, and the cells are numbered row × 5 + column, the swell part
from 25 on. -/
def Obligations.ClassRowsAndColumns : Prop :=
  ∀ (b : ClassBounds) (p ms : Nat), b.ordered = true →
    ((dipRow b p = 0 ↔ b.b1 ≤ p) ∧ (dipRow b p = 1 ↔ b.b2 ≤ p ∧ p < b.b1) ∧ (dipRow b p = 2 ↔ b.b3 ≤ p ∧ p < b.b2) ∧
      (dipRow b p = 3 ↔ b.b4 ≤ p ∧ p < b.b3) ∧ (dipRow b p = 4 ↔ p < b.b4)) ∧
    ((swellRow b p = 0 ↔ p < b.s1) ∧ (swellRow b p = 1 ↔ b.s1 ≤ p ∧ p < b.s2) ∧ (swellRow b p = 2 ↔ b.s2 ≤ p)) ∧
    ((durationColumn b ms = 0 ↔ ms < b.d1) ∧ (durationColumn b ms = 1 ↔ b.d1 ≤ ms ∧ ms < b.d2) ∧
      (durationColumn b ms = 2 ↔ b.d2 ≤ ms ∧ ms < b.d3) ∧ (durationColumn b ms = 3 ↔ b.d3 ≤ ms ∧ ms < b.d4) ∧
      (durationColumn b ms = 4 ↔ b.d4 ≤ ms)) ∧
    dipCell b p ms = dipRow b p * 5 + durationColumn b ms ∧
    swellCell b p ms = 25 + swellRow b p * 5 + durationColumn b ms ∧ dipCell b p ms < 25 ∧ swellCell b p ms < 40

/-! ## Laws that every step keeps -/

/-- Power-on meets every law of Safety.lean. -/
def Obligations.ResetMeetsTheLaws : Prop :=
  State.reset.RolesOnce ∧ State.reset.SetsOrdered ∧ State.reset.LevelsDerived ∧ State.reset.SwitchToOther ∧
  State.reset.CountsHeld ∧ State.reset.Bounded ∧ State.reset.LinkLaw ∧ State.reset.ReferenceFresh ∧
  State.reset.TimeInRange ∧ State.reset.TableInRange ∧ State.reset.StoppedQuiet ∧ State.reset.BlocksOnce ∧
  State.reset.CountersSum

/-- Every step keeps the roles held once, the Channel Table in its ranges, and the order of both threshold sets, with
the levels those of the active set and a pending switch never to the active set (R1, R2, R50, R53, R54). -/
def Obligations.StepKeepsTablesAndSets : Prop :=
  ∀ s t : State, s.RolesOnce ∧ s.TableInRange ∧ s.SetsOrdered ∧ s.LevelsDerived ∧ s.SwitchToOther →
    step s = .next t → t.RolesOnce ∧ t.TableInRange ∧ t.SetsOrdered ∧ t.LevelsDerived ∧ t.SwitchToOther

/-- Every step keeps the lost-detail counts at most the counts and the counts at most 65,535 (R90), the observation
counters summing to the closes counted (R143), and the bounded stores within their figures (R108, R139, R143, R183,
R188). -/
def Obligations.StepKeepsCountsAndBounds : Prop :=
  ∀ s t : State, s.CountsHeld ∧ s.CountersSum ∧ s.Bounded → step s = .next t →
    t.CountsHeld ∧ t.CountersSum ∧ t.Bounded

/-- Every step keeps the source, power and countdown with the lane, the reference fresh while ALIGNED, and device time
in its range (R154, R167, R169, R174, R176). -/
def Obligations.StepKeepsLinkLaw : Prop :=
  ∀ s t : State, s.LinkLaw ∧ s.ReferenceFresh ∧ s.TimeInRange → step s = .next t →
    t.LinkLaw ∧ t.ReferenceFresh ∧ t.TimeInRange

/-- Every step keeps STOPPED without an open event and with every detector NORMAL (R10). -/
def Obligations.StepKeepsStoppedQuiet : Prop := ∀ s t : State, s.StoppedQuiet → step s = .next t → t.StoppedQuiet

/-- Every step keeps each of the 128 capture blocks on the free list or in exactly one directory entry (R110, R112). -/
def Obligations.StepKeepsBlocksOnce : Prop := ∀ s t : State, s.BlocksOnce → step s = .next t → t.BlocksOnce

/-- Under the retention lock no command but power-on takes a record out of the Event Register, lowers a class count or
releases the lock (R102). -/
def Obligations.LockKeepsRecordsAndCounts : Prop :=
  ∀ (c : Instr) (s t : State), c ≠ .powerOn → s.er.locked = true → exec c s = .next t → keepsRecords s t

/-- Every command but power-on numbers its outbound frames one after another from the number kept; from a state that
meets the link law a frame with DATA has TIME_LOCAL clear, and only frames with DATA have SUBST set (R160, R161). -/
def Obligations.OutboundFramesAreNumbered : Prop :=
  ∀ (c : Instr) (s t : State), c ≠ .powerOn → exec c s = .next t →
    t.fl.outSeq = s.fl.outSeq + BitVec.ofNat 4 t.out.outbound.length ∧
    (∀ (i : Nat) (f : OutboundFrame), t.out.outbound[i]? = some f → f.seq = s.fl.outSeq + BitVec.ofNat 4 i) ∧
    (s.LinkLaw → ∀ f ∈ t.out.outbound, (f.data = true → f.timeLocal = false) ∧ (f.subst = true → f.data = true))

/-- In standby nothing goes out, whatever arrives that a lane can carry (R174, R175). -/
def Obligations.StandbySendsNothing : Prop :=
  ∀ (c : Instr) (s t : State), c.wellFormed = true → s.tb.power = .standby → exec c s = .next t →
    t.out.outbound = [] ∧ t.out.relayed = []

/-- No row but power-on and what a command word brings changes anything the meter controller writes; and in STOPPED such
a row leaves the Channel Conditioner, the Cycle Tracker, the RMS Engine, the Profile Store, the Class Matrix, the
pre-trigger ring and the fill state as they were (R8, R10, and the power-on rules' "kept" items). -/
def Obligations.ArrivalsKeepSettings : Prop :=
  ∀ (c : Instr) (s t : State), BringsNoCommand c → exec c s = .next t →
    s.sameSettings t ∧
    (s.cc.measurement = .stopped → t.cc = s.cc ∧ t.ct = s.ct ∧ t.re = s.re ∧ t.ps = s.ps ∧ t.cm = s.cm ∧
      t.ce.ring = s.ce.ring ∧ t.ce.fill = s.ce.fill)
end

