-- ==== Sys2Proof/Decode.lean ====
section
/-! DEFINITION. Decode.lean: the command that a word spells by the table's bits. Every row of spec/opcode_table.json has
an empty list of fields, so no word spells a command (assumption 8). The words of the lanes themselves are read in
Machine/Ops.lean and Machine/Operands.lean. -/

namespace Sys2Proof

/-- No row gives bits. -/
def decodeTableWord (_nbits _w : Nat) : Option Instr := none

end Sys2Proof
end

