-- ==== Sys2Proof/Laws/State.lean ====
section
/-! SUPPORT. Laws/State.lean: what each update of one block of State leaves in every block, field by field; and the same
for the updates of outputs and notices that every operation uses. -/

namespace Sys2Proof.Machine

variable (s : State)

/-! ### withFl -/

@[simp] theorem State.withFl_fl (x : FrameLink) : (s.withFl x).fl = x := rfl
@[simp] theorem State.withFl_cc (x : FrameLink) : (s.withFl x).cc = s.cc := rfl
@[simp] theorem State.withFl_ct (x : FrameLink) : (s.withFl x).ct = s.ct := rfl
@[simp] theorem State.withFl_re (x : FrameLink) : (s.withFl x).re = s.re := rfl
@[simp] theorem State.withFl_ps (x : FrameLink) : (s.withFl x).ps = s.ps := rfl
@[simp] theorem State.withFl_et (x : FrameLink) : (s.withFl x).et = s.et := rfl
@[simp] theorem State.withFl_cm (x : FrameLink) : (s.withFl x).cm = s.cm := rfl
@[simp] theorem State.withFl_er (x : FrameLink) : (s.withFl x).er = s.er := rfl
@[simp] theorem State.withFl_ce (x : FrameLink) : (s.withFl x).ce = s.ce := rfl
@[simp] theorem State.withFl_iu (x : FrameLink) : (s.withFl x).iu = s.iu := rfl
@[simp] theorem State.withFl_tb (x : FrameLink) : (s.withFl x).tb = s.tb := rfl
@[simp] theorem State.withFl_cu (x : FrameLink) : (s.withFl x).cu = s.cu := rfl
@[simp] theorem State.withFl_ra (x : FrameLink) : (s.withFl x).ra = s.ra := rfl
@[simp] theorem State.withFl_nu (x : FrameLink) : (s.withFl x).nu = s.nu := rfl
@[simp] theorem State.withFl_out (x : FrameLink) : (s.withFl x).out = s.out := rfl
@[simp] theorem State.withFl_pending (x : FrameLink) : (s.withFl x).pending = s.pending := rfl

/-! ### withCc -/

@[simp] theorem State.withCc_fl (x : Conditioner) : (s.withCc x).fl = s.fl := rfl
@[simp] theorem State.withCc_cc (x : Conditioner) : (s.withCc x).cc = x := rfl
@[simp] theorem State.withCc_ct (x : Conditioner) : (s.withCc x).ct = s.ct := rfl
@[simp] theorem State.withCc_re (x : Conditioner) : (s.withCc x).re = s.re := rfl
@[simp] theorem State.withCc_ps (x : Conditioner) : (s.withCc x).ps = s.ps := rfl
@[simp] theorem State.withCc_et (x : Conditioner) : (s.withCc x).et = s.et := rfl
@[simp] theorem State.withCc_cm (x : Conditioner) : (s.withCc x).cm = s.cm := rfl
@[simp] theorem State.withCc_er (x : Conditioner) : (s.withCc x).er = s.er := rfl
@[simp] theorem State.withCc_ce (x : Conditioner) : (s.withCc x).ce = s.ce := rfl
@[simp] theorem State.withCc_iu (x : Conditioner) : (s.withCc x).iu = s.iu := rfl
@[simp] theorem State.withCc_tb (x : Conditioner) : (s.withCc x).tb = s.tb := rfl
@[simp] theorem State.withCc_cu (x : Conditioner) : (s.withCc x).cu = s.cu := rfl
@[simp] theorem State.withCc_ra (x : Conditioner) : (s.withCc x).ra = s.ra := rfl
@[simp] theorem State.withCc_nu (x : Conditioner) : (s.withCc x).nu = s.nu := rfl
@[simp] theorem State.withCc_out (x : Conditioner) : (s.withCc x).out = s.out := rfl
@[simp] theorem State.withCc_pending (x : Conditioner) : (s.withCc x).pending = s.pending := rfl

/-! ### withCt -/

@[simp] theorem State.withCt_fl (x : Tracker) : (s.withCt x).fl = s.fl := rfl
@[simp] theorem State.withCt_cc (x : Tracker) : (s.withCt x).cc = s.cc := rfl
@[simp] theorem State.withCt_ct (x : Tracker) : (s.withCt x).ct = x := rfl
@[simp] theorem State.withCt_re (x : Tracker) : (s.withCt x).re = s.re := rfl
@[simp] theorem State.withCt_ps (x : Tracker) : (s.withCt x).ps = s.ps := rfl
@[simp] theorem State.withCt_et (x : Tracker) : (s.withCt x).et = s.et := rfl
@[simp] theorem State.withCt_cm (x : Tracker) : (s.withCt x).cm = s.cm := rfl
@[simp] theorem State.withCt_er (x : Tracker) : (s.withCt x).er = s.er := rfl
@[simp] theorem State.withCt_ce (x : Tracker) : (s.withCt x).ce = s.ce := rfl
@[simp] theorem State.withCt_iu (x : Tracker) : (s.withCt x).iu = s.iu := rfl
@[simp] theorem State.withCt_tb (x : Tracker) : (s.withCt x).tb = s.tb := rfl
@[simp] theorem State.withCt_cu (x : Tracker) : (s.withCt x).cu = s.cu := rfl
@[simp] theorem State.withCt_ra (x : Tracker) : (s.withCt x).ra = s.ra := rfl
@[simp] theorem State.withCt_nu (x : Tracker) : (s.withCt x).nu = s.nu := rfl
@[simp] theorem State.withCt_out (x : Tracker) : (s.withCt x).out = s.out := rfl
@[simp] theorem State.withCt_pending (x : Tracker) : (s.withCt x).pending = s.pending := rfl

/-! ### withRe -/

@[simp] theorem State.withRe_fl (x : RmsEngine) : (s.withRe x).fl = s.fl := rfl
@[simp] theorem State.withRe_cc (x : RmsEngine) : (s.withRe x).cc = s.cc := rfl
@[simp] theorem State.withRe_ct (x : RmsEngine) : (s.withRe x).ct = s.ct := rfl
@[simp] theorem State.withRe_re (x : RmsEngine) : (s.withRe x).re = x := rfl
@[simp] theorem State.withRe_ps (x : RmsEngine) : (s.withRe x).ps = s.ps := rfl
@[simp] theorem State.withRe_et (x : RmsEngine) : (s.withRe x).et = s.et := rfl
@[simp] theorem State.withRe_cm (x : RmsEngine) : (s.withRe x).cm = s.cm := rfl
@[simp] theorem State.withRe_er (x : RmsEngine) : (s.withRe x).er = s.er := rfl
@[simp] theorem State.withRe_ce (x : RmsEngine) : (s.withRe x).ce = s.ce := rfl
@[simp] theorem State.withRe_iu (x : RmsEngine) : (s.withRe x).iu = s.iu := rfl
@[simp] theorem State.withRe_tb (x : RmsEngine) : (s.withRe x).tb = s.tb := rfl
@[simp] theorem State.withRe_cu (x : RmsEngine) : (s.withRe x).cu = s.cu := rfl
@[simp] theorem State.withRe_ra (x : RmsEngine) : (s.withRe x).ra = s.ra := rfl
@[simp] theorem State.withRe_nu (x : RmsEngine) : (s.withRe x).nu = s.nu := rfl
@[simp] theorem State.withRe_out (x : RmsEngine) : (s.withRe x).out = s.out := rfl
@[simp] theorem State.withRe_pending (x : RmsEngine) : (s.withRe x).pending = s.pending := rfl

/-! ### withPs -/

@[simp] theorem State.withPs_fl (x : ProfileStore) : (s.withPs x).fl = s.fl := rfl
@[simp] theorem State.withPs_cc (x : ProfileStore) : (s.withPs x).cc = s.cc := rfl
@[simp] theorem State.withPs_ct (x : ProfileStore) : (s.withPs x).ct = s.ct := rfl
@[simp] theorem State.withPs_re (x : ProfileStore) : (s.withPs x).re = s.re := rfl
@[simp] theorem State.withPs_ps (x : ProfileStore) : (s.withPs x).ps = x := rfl
@[simp] theorem State.withPs_et (x : ProfileStore) : (s.withPs x).et = s.et := rfl
@[simp] theorem State.withPs_cm (x : ProfileStore) : (s.withPs x).cm = s.cm := rfl
@[simp] theorem State.withPs_er (x : ProfileStore) : (s.withPs x).er = s.er := rfl
@[simp] theorem State.withPs_ce (x : ProfileStore) : (s.withPs x).ce = s.ce := rfl
@[simp] theorem State.withPs_iu (x : ProfileStore) : (s.withPs x).iu = s.iu := rfl
@[simp] theorem State.withPs_tb (x : ProfileStore) : (s.withPs x).tb = s.tb := rfl
@[simp] theorem State.withPs_cu (x : ProfileStore) : (s.withPs x).cu = s.cu := rfl
@[simp] theorem State.withPs_ra (x : ProfileStore) : (s.withPs x).ra = s.ra := rfl
@[simp] theorem State.withPs_nu (x : ProfileStore) : (s.withPs x).nu = s.nu := rfl
@[simp] theorem State.withPs_out (x : ProfileStore) : (s.withPs x).out = s.out := rfl
@[simp] theorem State.withPs_pending (x : ProfileStore) : (s.withPs x).pending = s.pending := rfl

/-! ### withEt -/

@[simp] theorem State.withEt_fl (x : EventTracker) : (s.withEt x).fl = s.fl := rfl
@[simp] theorem State.withEt_cc (x : EventTracker) : (s.withEt x).cc = s.cc := rfl
@[simp] theorem State.withEt_ct (x : EventTracker) : (s.withEt x).ct = s.ct := rfl
@[simp] theorem State.withEt_re (x : EventTracker) : (s.withEt x).re = s.re := rfl
@[simp] theorem State.withEt_ps (x : EventTracker) : (s.withEt x).ps = s.ps := rfl
@[simp] theorem State.withEt_et (x : EventTracker) : (s.withEt x).et = x := rfl
@[simp] theorem State.withEt_cm (x : EventTracker) : (s.withEt x).cm = s.cm := rfl
@[simp] theorem State.withEt_er (x : EventTracker) : (s.withEt x).er = s.er := rfl
@[simp] theorem State.withEt_ce (x : EventTracker) : (s.withEt x).ce = s.ce := rfl
@[simp] theorem State.withEt_iu (x : EventTracker) : (s.withEt x).iu = s.iu := rfl
@[simp] theorem State.withEt_tb (x : EventTracker) : (s.withEt x).tb = s.tb := rfl
@[simp] theorem State.withEt_cu (x : EventTracker) : (s.withEt x).cu = s.cu := rfl
@[simp] theorem State.withEt_ra (x : EventTracker) : (s.withEt x).ra = s.ra := rfl
@[simp] theorem State.withEt_nu (x : EventTracker) : (s.withEt x).nu = s.nu := rfl
@[simp] theorem State.withEt_out (x : EventTracker) : (s.withEt x).out = s.out := rfl
@[simp] theorem State.withEt_pending (x : EventTracker) : (s.withEt x).pending = s.pending := rfl

/-! ### withCm -/

@[simp] theorem State.withCm_fl (x : ClassMatrix) : (s.withCm x).fl = s.fl := rfl
@[simp] theorem State.withCm_cc (x : ClassMatrix) : (s.withCm x).cc = s.cc := rfl
@[simp] theorem State.withCm_ct (x : ClassMatrix) : (s.withCm x).ct = s.ct := rfl
@[simp] theorem State.withCm_re (x : ClassMatrix) : (s.withCm x).re = s.re := rfl
@[simp] theorem State.withCm_ps (x : ClassMatrix) : (s.withCm x).ps = s.ps := rfl
@[simp] theorem State.withCm_et (x : ClassMatrix) : (s.withCm x).et = s.et := rfl
@[simp] theorem State.withCm_cm (x : ClassMatrix) : (s.withCm x).cm = x := rfl
@[simp] theorem State.withCm_er (x : ClassMatrix) : (s.withCm x).er = s.er := rfl
@[simp] theorem State.withCm_ce (x : ClassMatrix) : (s.withCm x).ce = s.ce := rfl
@[simp] theorem State.withCm_iu (x : ClassMatrix) : (s.withCm x).iu = s.iu := rfl
@[simp] theorem State.withCm_tb (x : ClassMatrix) : (s.withCm x).tb = s.tb := rfl
@[simp] theorem State.withCm_cu (x : ClassMatrix) : (s.withCm x).cu = s.cu := rfl
@[simp] theorem State.withCm_ra (x : ClassMatrix) : (s.withCm x).ra = s.ra := rfl
@[simp] theorem State.withCm_nu (x : ClassMatrix) : (s.withCm x).nu = s.nu := rfl
@[simp] theorem State.withCm_out (x : ClassMatrix) : (s.withCm x).out = s.out := rfl
@[simp] theorem State.withCm_pending (x : ClassMatrix) : (s.withCm x).pending = s.pending := rfl

/-! ### withEr -/

@[simp] theorem State.withEr_fl (x : EventRegister) : (s.withEr x).fl = s.fl := rfl
@[simp] theorem State.withEr_cc (x : EventRegister) : (s.withEr x).cc = s.cc := rfl
@[simp] theorem State.withEr_ct (x : EventRegister) : (s.withEr x).ct = s.ct := rfl
@[simp] theorem State.withEr_re (x : EventRegister) : (s.withEr x).re = s.re := rfl
@[simp] theorem State.withEr_ps (x : EventRegister) : (s.withEr x).ps = s.ps := rfl
@[simp] theorem State.withEr_et (x : EventRegister) : (s.withEr x).et = s.et := rfl
@[simp] theorem State.withEr_cm (x : EventRegister) : (s.withEr x).cm = s.cm := rfl
@[simp] theorem State.withEr_er (x : EventRegister) : (s.withEr x).er = x := rfl
@[simp] theorem State.withEr_ce (x : EventRegister) : (s.withEr x).ce = s.ce := rfl
@[simp] theorem State.withEr_iu (x : EventRegister) : (s.withEr x).iu = s.iu := rfl
@[simp] theorem State.withEr_tb (x : EventRegister) : (s.withEr x).tb = s.tb := rfl
@[simp] theorem State.withEr_cu (x : EventRegister) : (s.withEr x).cu = s.cu := rfl
@[simp] theorem State.withEr_ra (x : EventRegister) : (s.withEr x).ra = s.ra := rfl
@[simp] theorem State.withEr_nu (x : EventRegister) : (s.withEr x).nu = s.nu := rfl
@[simp] theorem State.withEr_out (x : EventRegister) : (s.withEr x).out = s.out := rfl
@[simp] theorem State.withEr_pending (x : EventRegister) : (s.withEr x).pending = s.pending := rfl

/-! ### withCe -/

@[simp] theorem State.withCe_fl (x : CaptureEngine) : (s.withCe x).fl = s.fl := rfl
@[simp] theorem State.withCe_cc (x : CaptureEngine) : (s.withCe x).cc = s.cc := rfl
@[simp] theorem State.withCe_ct (x : CaptureEngine) : (s.withCe x).ct = s.ct := rfl
@[simp] theorem State.withCe_re (x : CaptureEngine) : (s.withCe x).re = s.re := rfl
@[simp] theorem State.withCe_ps (x : CaptureEngine) : (s.withCe x).ps = s.ps := rfl
@[simp] theorem State.withCe_et (x : CaptureEngine) : (s.withCe x).et = s.et := rfl
@[simp] theorem State.withCe_cm (x : CaptureEngine) : (s.withCe x).cm = s.cm := rfl
@[simp] theorem State.withCe_er (x : CaptureEngine) : (s.withCe x).er = s.er := rfl
@[simp] theorem State.withCe_ce (x : CaptureEngine) : (s.withCe x).ce = x := rfl
@[simp] theorem State.withCe_iu (x : CaptureEngine) : (s.withCe x).iu = s.iu := rfl
@[simp] theorem State.withCe_tb (x : CaptureEngine) : (s.withCe x).tb = s.tb := rfl
@[simp] theorem State.withCe_cu (x : CaptureEngine) : (s.withCe x).cu = s.cu := rfl
@[simp] theorem State.withCe_ra (x : CaptureEngine) : (s.withCe x).ra = s.ra := rfl
@[simp] theorem State.withCe_nu (x : CaptureEngine) : (s.withCe x).nu = s.nu := rfl
@[simp] theorem State.withCe_out (x : CaptureEngine) : (s.withCe x).out = s.out := rfl
@[simp] theorem State.withCe_pending (x : CaptureEngine) : (s.withCe x).pending = s.pending := rfl

/-! ### withIu -/

@[simp] theorem State.withIu_fl (x : IntervalUnit) : (s.withIu x).fl = s.fl := rfl
@[simp] theorem State.withIu_cc (x : IntervalUnit) : (s.withIu x).cc = s.cc := rfl
@[simp] theorem State.withIu_ct (x : IntervalUnit) : (s.withIu x).ct = s.ct := rfl
@[simp] theorem State.withIu_re (x : IntervalUnit) : (s.withIu x).re = s.re := rfl
@[simp] theorem State.withIu_ps (x : IntervalUnit) : (s.withIu x).ps = s.ps := rfl
@[simp] theorem State.withIu_et (x : IntervalUnit) : (s.withIu x).et = s.et := rfl
@[simp] theorem State.withIu_cm (x : IntervalUnit) : (s.withIu x).cm = s.cm := rfl
@[simp] theorem State.withIu_er (x : IntervalUnit) : (s.withIu x).er = s.er := rfl
@[simp] theorem State.withIu_ce (x : IntervalUnit) : (s.withIu x).ce = s.ce := rfl
@[simp] theorem State.withIu_iu (x : IntervalUnit) : (s.withIu x).iu = x := rfl
@[simp] theorem State.withIu_tb (x : IntervalUnit) : (s.withIu x).tb = s.tb := rfl
@[simp] theorem State.withIu_cu (x : IntervalUnit) : (s.withIu x).cu = s.cu := rfl
@[simp] theorem State.withIu_ra (x : IntervalUnit) : (s.withIu x).ra = s.ra := rfl
@[simp] theorem State.withIu_nu (x : IntervalUnit) : (s.withIu x).nu = s.nu := rfl
@[simp] theorem State.withIu_out (x : IntervalUnit) : (s.withIu x).out = s.out := rfl
@[simp] theorem State.withIu_pending (x : IntervalUnit) : (s.withIu x).pending = s.pending := rfl

/-! ### withTb -/

@[simp] theorem State.withTb_fl (x : Timebase) : (s.withTb x).fl = s.fl := rfl
@[simp] theorem State.withTb_cc (x : Timebase) : (s.withTb x).cc = s.cc := rfl
@[simp] theorem State.withTb_ct (x : Timebase) : (s.withTb x).ct = s.ct := rfl
@[simp] theorem State.withTb_re (x : Timebase) : (s.withTb x).re = s.re := rfl
@[simp] theorem State.withTb_ps (x : Timebase) : (s.withTb x).ps = s.ps := rfl
@[simp] theorem State.withTb_et (x : Timebase) : (s.withTb x).et = s.et := rfl
@[simp] theorem State.withTb_cm (x : Timebase) : (s.withTb x).cm = s.cm := rfl
@[simp] theorem State.withTb_er (x : Timebase) : (s.withTb x).er = s.er := rfl
@[simp] theorem State.withTb_ce (x : Timebase) : (s.withTb x).ce = s.ce := rfl
@[simp] theorem State.withTb_iu (x : Timebase) : (s.withTb x).iu = s.iu := rfl
@[simp] theorem State.withTb_tb (x : Timebase) : (s.withTb x).tb = x := rfl
@[simp] theorem State.withTb_cu (x : Timebase) : (s.withTb x).cu = s.cu := rfl
@[simp] theorem State.withTb_ra (x : Timebase) : (s.withTb x).ra = s.ra := rfl
@[simp] theorem State.withTb_nu (x : Timebase) : (s.withTb x).nu = s.nu := rfl
@[simp] theorem State.withTb_out (x : Timebase) : (s.withTb x).out = s.out := rfl
@[simp] theorem State.withTb_pending (x : Timebase) : (s.withTb x).pending = s.pending := rfl

/-! ### withCu -/

@[simp] theorem State.withCu_fl (x : CommandUnit) : (s.withCu x).fl = s.fl := rfl
@[simp] theorem State.withCu_cc (x : CommandUnit) : (s.withCu x).cc = s.cc := rfl
@[simp] theorem State.withCu_ct (x : CommandUnit) : (s.withCu x).ct = s.ct := rfl
@[simp] theorem State.withCu_re (x : CommandUnit) : (s.withCu x).re = s.re := rfl
@[simp] theorem State.withCu_ps (x : CommandUnit) : (s.withCu x).ps = s.ps := rfl
@[simp] theorem State.withCu_et (x : CommandUnit) : (s.withCu x).et = s.et := rfl
@[simp] theorem State.withCu_cm (x : CommandUnit) : (s.withCu x).cm = s.cm := rfl
@[simp] theorem State.withCu_er (x : CommandUnit) : (s.withCu x).er = s.er := rfl
@[simp] theorem State.withCu_ce (x : CommandUnit) : (s.withCu x).ce = s.ce := rfl
@[simp] theorem State.withCu_iu (x : CommandUnit) : (s.withCu x).iu = s.iu := rfl
@[simp] theorem State.withCu_tb (x : CommandUnit) : (s.withCu x).tb = s.tb := rfl
@[simp] theorem State.withCu_cu (x : CommandUnit) : (s.withCu x).cu = x := rfl
@[simp] theorem State.withCu_ra (x : CommandUnit) : (s.withCu x).ra = s.ra := rfl
@[simp] theorem State.withCu_nu (x : CommandUnit) : (s.withCu x).nu = s.nu := rfl
@[simp] theorem State.withCu_out (x : CommandUnit) : (s.withCu x).out = s.out := rfl
@[simp] theorem State.withCu_pending (x : CommandUnit) : (s.withCu x).pending = s.pending := rfl

/-! ### withRa -/

@[simp] theorem State.withRa_fl (x : ReportArbiter) : (s.withRa x).fl = s.fl := rfl
@[simp] theorem State.withRa_cc (x : ReportArbiter) : (s.withRa x).cc = s.cc := rfl
@[simp] theorem State.withRa_ct (x : ReportArbiter) : (s.withRa x).ct = s.ct := rfl
@[simp] theorem State.withRa_re (x : ReportArbiter) : (s.withRa x).re = s.re := rfl
@[simp] theorem State.withRa_ps (x : ReportArbiter) : (s.withRa x).ps = s.ps := rfl
@[simp] theorem State.withRa_et (x : ReportArbiter) : (s.withRa x).et = s.et := rfl
@[simp] theorem State.withRa_cm (x : ReportArbiter) : (s.withRa x).cm = s.cm := rfl
@[simp] theorem State.withRa_er (x : ReportArbiter) : (s.withRa x).er = s.er := rfl
@[simp] theorem State.withRa_ce (x : ReportArbiter) : (s.withRa x).ce = s.ce := rfl
@[simp] theorem State.withRa_iu (x : ReportArbiter) : (s.withRa x).iu = s.iu := rfl
@[simp] theorem State.withRa_tb (x : ReportArbiter) : (s.withRa x).tb = s.tb := rfl
@[simp] theorem State.withRa_cu (x : ReportArbiter) : (s.withRa x).cu = s.cu := rfl
@[simp] theorem State.withRa_ra (x : ReportArbiter) : (s.withRa x).ra = x := rfl
@[simp] theorem State.withRa_nu (x : ReportArbiter) : (s.withRa x).nu = s.nu := rfl
@[simp] theorem State.withRa_out (x : ReportArbiter) : (s.withRa x).out = s.out := rfl
@[simp] theorem State.withRa_pending (x : ReportArbiter) : (s.withRa x).pending = s.pending := rfl

/-! ### withNu -/

@[simp] theorem State.withNu_fl (x : NoticeUnit) : (s.withNu x).fl = s.fl := rfl
@[simp] theorem State.withNu_cc (x : NoticeUnit) : (s.withNu x).cc = s.cc := rfl
@[simp] theorem State.withNu_ct (x : NoticeUnit) : (s.withNu x).ct = s.ct := rfl
@[simp] theorem State.withNu_re (x : NoticeUnit) : (s.withNu x).re = s.re := rfl
@[simp] theorem State.withNu_ps (x : NoticeUnit) : (s.withNu x).ps = s.ps := rfl
@[simp] theorem State.withNu_et (x : NoticeUnit) : (s.withNu x).et = s.et := rfl
@[simp] theorem State.withNu_cm (x : NoticeUnit) : (s.withNu x).cm = s.cm := rfl
@[simp] theorem State.withNu_er (x : NoticeUnit) : (s.withNu x).er = s.er := rfl
@[simp] theorem State.withNu_ce (x : NoticeUnit) : (s.withNu x).ce = s.ce := rfl
@[simp] theorem State.withNu_iu (x : NoticeUnit) : (s.withNu x).iu = s.iu := rfl
@[simp] theorem State.withNu_tb (x : NoticeUnit) : (s.withNu x).tb = s.tb := rfl
@[simp] theorem State.withNu_cu (x : NoticeUnit) : (s.withNu x).cu = s.cu := rfl
@[simp] theorem State.withNu_ra (x : NoticeUnit) : (s.withNu x).ra = s.ra := rfl
@[simp] theorem State.withNu_nu (x : NoticeUnit) : (s.withNu x).nu = x := rfl
@[simp] theorem State.withNu_out (x : NoticeUnit) : (s.withNu x).out = s.out := rfl
@[simp] theorem State.withNu_pending (x : NoticeUnit) : (s.withNu x).pending = s.pending := rfl

/-! ### withOut -/

@[simp] theorem State.withOut_fl (x : Outputs) : (s.withOut x).fl = s.fl := rfl
@[simp] theorem State.withOut_cc (x : Outputs) : (s.withOut x).cc = s.cc := rfl
@[simp] theorem State.withOut_ct (x : Outputs) : (s.withOut x).ct = s.ct := rfl
@[simp] theorem State.withOut_re (x : Outputs) : (s.withOut x).re = s.re := rfl
@[simp] theorem State.withOut_ps (x : Outputs) : (s.withOut x).ps = s.ps := rfl
@[simp] theorem State.withOut_et (x : Outputs) : (s.withOut x).et = s.et := rfl
@[simp] theorem State.withOut_cm (x : Outputs) : (s.withOut x).cm = s.cm := rfl
@[simp] theorem State.withOut_er (x : Outputs) : (s.withOut x).er = s.er := rfl
@[simp] theorem State.withOut_ce (x : Outputs) : (s.withOut x).ce = s.ce := rfl
@[simp] theorem State.withOut_iu (x : Outputs) : (s.withOut x).iu = s.iu := rfl
@[simp] theorem State.withOut_tb (x : Outputs) : (s.withOut x).tb = s.tb := rfl
@[simp] theorem State.withOut_cu (x : Outputs) : (s.withOut x).cu = s.cu := rfl
@[simp] theorem State.withOut_ra (x : Outputs) : (s.withOut x).ra = s.ra := rfl
@[simp] theorem State.withOut_nu (x : Outputs) : (s.withOut x).nu = s.nu := rfl
@[simp] theorem State.withOut_out (x : Outputs) : (s.withOut x).out = x := rfl
@[simp] theorem State.withOut_pending (x : Outputs) : (s.withOut x).pending = s.pending := rfl

/-! ### withPending -/

@[simp] theorem State.withPending_fl (x : List Instr) : (s.withPending x).fl = s.fl := rfl
@[simp] theorem State.withPending_cc (x : List Instr) : (s.withPending x).cc = s.cc := rfl
@[simp] theorem State.withPending_ct (x : List Instr) : (s.withPending x).ct = s.ct := rfl
@[simp] theorem State.withPending_re (x : List Instr) : (s.withPending x).re = s.re := rfl
@[simp] theorem State.withPending_ps (x : List Instr) : (s.withPending x).ps = s.ps := rfl
@[simp] theorem State.withPending_et (x : List Instr) : (s.withPending x).et = s.et := rfl
@[simp] theorem State.withPending_cm (x : List Instr) : (s.withPending x).cm = s.cm := rfl
@[simp] theorem State.withPending_er (x : List Instr) : (s.withPending x).er = s.er := rfl
@[simp] theorem State.withPending_ce (x : List Instr) : (s.withPending x).ce = s.ce := rfl
@[simp] theorem State.withPending_iu (x : List Instr) : (s.withPending x).iu = s.iu := rfl
@[simp] theorem State.withPending_tb (x : List Instr) : (s.withPending x).tb = s.tb := rfl
@[simp] theorem State.withPending_cu (x : List Instr) : (s.withPending x).cu = s.cu := rfl
@[simp] theorem State.withPending_ra (x : List Instr) : (s.withPending x).ra = s.ra := rfl
@[simp] theorem State.withPending_nu (x : List Instr) : (s.withPending x).nu = s.nu := rfl
@[simp] theorem State.withPending_out (x : List Instr) : (s.withPending x).out = s.out := rfl
@[simp] theorem State.withPending_pending (x : List Instr) : (s.withPending x).pending = x := rfl

/-! ### begin -/

@[simp] theorem State.begin_fl : s.begin.fl = s.fl := rfl
@[simp] theorem State.begin_cc : s.begin.cc = s.cc := rfl
@[simp] theorem State.begin_ct : s.begin.ct = s.ct := rfl
@[simp] theorem State.begin_re : s.begin.re = s.re := rfl
@[simp] theorem State.begin_ps : s.begin.ps = s.ps := rfl
@[simp] theorem State.begin_et : s.begin.et = s.et := rfl
@[simp] theorem State.begin_cm : s.begin.cm = s.cm := rfl
@[simp] theorem State.begin_er : s.begin.er = s.er := rfl
@[simp] theorem State.begin_ce : s.begin.ce = s.ce := rfl
@[simp] theorem State.begin_iu : s.begin.iu = s.iu := rfl
@[simp] theorem State.begin_tb : s.begin.tb = s.tb := rfl
@[simp] theorem State.begin_cu : s.begin.cu = s.cu := rfl
@[simp] theorem State.begin_ra : s.begin.ra = s.ra := rfl
@[simp] theorem State.begin_nu : s.begin.nu = s.nu := rfl
@[simp] theorem State.begin_out : s.begin.out = Outputs.none := rfl
@[simp] theorem State.begin_pending : s.begin.pending = s.pending := rfl

/-! ### note -/

@[simp] theorem State.note_fl (o : Occurrence) : (s.note o).fl = s.fl := rfl
@[simp] theorem State.note_cc (o : Occurrence) : (s.note o).cc = s.cc := rfl
@[simp] theorem State.note_ct (o : Occurrence) : (s.note o).ct = s.ct := rfl
@[simp] theorem State.note_re (o : Occurrence) : (s.note o).re = s.re := rfl
@[simp] theorem State.note_ps (o : Occurrence) : (s.note o).ps = s.ps := rfl
@[simp] theorem State.note_et (o : Occurrence) : (s.note o).et = s.et := rfl
@[simp] theorem State.note_cm (o : Occurrence) : (s.note o).cm = s.cm := rfl
@[simp] theorem State.note_er (o : Occurrence) : (s.note o).er = s.er := rfl
@[simp] theorem State.note_ce (o : Occurrence) : (s.note o).ce = s.ce := rfl
@[simp] theorem State.note_iu (o : Occurrence) : (s.note o).iu = s.iu := rfl
@[simp] theorem State.note_tb (o : Occurrence) : (s.note o).tb = s.tb := rfl
@[simp] theorem State.note_cu (o : Occurrence) : (s.note o).cu = s.cu := rfl
@[simp] theorem State.note_ra (o : Occurrence) : (s.note o).ra = s.ra := rfl
@[simp] theorem State.note_nu (o : Occurrence) : (s.note o).nu = s.nu := rfl
@[simp] theorem State.note_pending (o : Occurrence) : (s.note o).pending = s.pending := rfl
@[simp] theorem State.note_outbound (o : Occurrence) : (s.note o).out.outbound = s.out.outbound := rfl
@[simp] theorem State.note_relayed (o : Occurrence) : (s.note o).out.relayed = s.out.relayed := rfl
@[simp] theorem State.note_occurred (o : Occurrence) : (s.note o).out.occurred = s.out.occurred ++ [o] := rfl

/-! ### raise -/

@[simp] theorem State.raise_fl (c : Cause) : (s.raise c).fl = s.fl := rfl
@[simp] theorem State.raise_cc (c : Cause) : (s.raise c).cc = s.cc := rfl
@[simp] theorem State.raise_ct (c : Cause) : (s.raise c).ct = s.ct := rfl
@[simp] theorem State.raise_re (c : Cause) : (s.raise c).re = s.re := rfl
@[simp] theorem State.raise_ps (c : Cause) : (s.raise c).ps = s.ps := rfl
@[simp] theorem State.raise_et (c : Cause) : (s.raise c).et = s.et := rfl
@[simp] theorem State.raise_cm (c : Cause) : (s.raise c).cm = s.cm := rfl
@[simp] theorem State.raise_er (c : Cause) : (s.raise c).er = s.er := rfl
@[simp] theorem State.raise_ce (c : Cause) : (s.raise c).ce = s.ce := rfl
@[simp] theorem State.raise_iu (c : Cause) : (s.raise c).iu = s.iu := rfl
@[simp] theorem State.raise_tb (c : Cause) : (s.raise c).tb = s.tb := rfl
@[simp] theorem State.raise_cu (c : Cause) : (s.raise c).cu = s.cu := rfl
@[simp] theorem State.raise_ra (c : Cause) : (s.raise c).ra = s.ra := rfl
@[simp] theorem State.raise_out (c : Cause) : (s.raise c).out = s.out := rfl
@[simp] theorem State.raise_pending (c : Cause) : (s.raise c).pending = s.pending := rfl

/-! ### raiseIf -/

@[simp] theorem State.raiseIf_fl (c : Cause) (b : Bool) : (s.raiseIf c b).fl = s.fl := rfl
@[simp] theorem State.raiseIf_cc (c : Cause) (b : Bool) : (s.raiseIf c b).cc = s.cc := rfl
@[simp] theorem State.raiseIf_ct (c : Cause) (b : Bool) : (s.raiseIf c b).ct = s.ct := rfl
@[simp] theorem State.raiseIf_re (c : Cause) (b : Bool) : (s.raiseIf c b).re = s.re := rfl
@[simp] theorem State.raiseIf_ps (c : Cause) (b : Bool) : (s.raiseIf c b).ps = s.ps := rfl
@[simp] theorem State.raiseIf_et (c : Cause) (b : Bool) : (s.raiseIf c b).et = s.et := rfl
@[simp] theorem State.raiseIf_cm (c : Cause) (b : Bool) : (s.raiseIf c b).cm = s.cm := rfl
@[simp] theorem State.raiseIf_er (c : Cause) (b : Bool) : (s.raiseIf c b).er = s.er := rfl
@[simp] theorem State.raiseIf_ce (c : Cause) (b : Bool) : (s.raiseIf c b).ce = s.ce := rfl
@[simp] theorem State.raiseIf_iu (c : Cause) (b : Bool) : (s.raiseIf c b).iu = s.iu := rfl
@[simp] theorem State.raiseIf_tb (c : Cause) (b : Bool) : (s.raiseIf c b).tb = s.tb := rfl
@[simp] theorem State.raiseIf_cu (c : Cause) (b : Bool) : (s.raiseIf c b).cu = s.cu := rfl
@[simp] theorem State.raiseIf_ra (c : Cause) (b : Bool) : (s.raiseIf c b).ra = s.ra := rfl
@[simp] theorem State.raiseIf_out (c : Cause) (b : Bool) : (s.raiseIf c b).out = s.out := rfl
@[simp] theorem State.raiseIf_pending (c : Cause) (b : Bool) : (s.raiseIf c b).pending = s.pending := rfl
@[simp] theorem State.raise_nu (c : Cause) : (s.raise c).nu = s.nu.raise c := rfl
@[simp] theorem State.raiseIf_nu (c : Cause) (b : Bool) :
    (s.raiseIf c b).nu = if b then s.nu.raise c else s.nu := rfl

end Sys2Proof.Machine
end

