-- ==== Sys2Proof/Laws/Frames.lean ====
section
/-! SUPPORT. Laws/Frames.lean: for each shared operation, the blocks of State that it leaves as they were. -/

namespace Sys2Proof.Machine

variable (s : State)

/-! ### Registers and push lists (Machine/Register.lean) -/

@[simp] theorem State.offerEventPush_frame (ident : Nat) (phase : PushPhase) :
    (s.offerEventPush ident phase).fl = s.fl ∧ (s.offerEventPush ident phase).cc = s.cc ∧
    (s.offerEventPush ident phase).ct = s.ct ∧ (s.offerEventPush ident phase).re = s.re ∧
    (s.offerEventPush ident phase).ps = s.ps ∧ (s.offerEventPush ident phase).et = s.et ∧
    (s.offerEventPush ident phase).cm = s.cm ∧ (s.offerEventPush ident phase).er = s.er ∧
    (s.offerEventPush ident phase).ce = s.ce ∧ (s.offerEventPush ident phase).iu = s.iu ∧
    (s.offerEventPush ident phase).tb = s.tb ∧ (s.offerEventPush ident phase).cu = s.cu ∧
    (s.offerEventPush ident phase).pending = s.pending := by
  unfold State.offerEventPush; (repeat' split) <;> simp

@[simp] theorem State.offerIntervalPush_frame (index : Nat) :
    (s.offerIntervalPush index).fl = s.fl ∧ (s.offerIntervalPush index).cc = s.cc ∧
    (s.offerIntervalPush index).ct = s.ct ∧ (s.offerIntervalPush index).re = s.re ∧
    (s.offerIntervalPush index).ps = s.ps ∧ (s.offerIntervalPush index).et = s.et ∧
    (s.offerIntervalPush index).cm = s.cm ∧ (s.offerIntervalPush index).er = s.er ∧
    (s.offerIntervalPush index).ce = s.ce ∧ (s.offerIntervalPush index).iu = s.iu ∧
    (s.offerIntervalPush index).tb = s.tb ∧ (s.offerIntervalPush index).cu = s.cu ∧
    (s.offerIntervalPush index).pending = s.pending := by
  unfold State.offerIntervalPush; (repeat' split) <;> simp

@[simp] theorem State.takeIdent_frame :
    s.takeIdent.fl = s.fl ∧ s.takeIdent.cc = s.cc ∧ s.takeIdent.ct = s.ct ∧ s.takeIdent.re = s.re ∧
    s.takeIdent.ps = s.ps ∧ s.takeIdent.et = s.et ∧ s.takeIdent.cm = s.cm ∧ s.takeIdent.ce = s.ce ∧
    s.takeIdent.iu = s.iu ∧ s.takeIdent.tb = s.tb ∧ s.takeIdent.cu = s.cu ∧ s.takeIdent.ra = s.ra ∧
    s.takeIdent.nu = s.nu ∧ s.takeIdent.pending = s.pending := by
  simp [State.takeIdent]

@[simp] theorem State.testWatermark_frame :
    s.testWatermark.fl = s.fl ∧ s.testWatermark.cc = s.cc ∧ s.testWatermark.ct = s.ct ∧ s.testWatermark.re = s.re ∧
    s.testWatermark.ps = s.ps ∧ s.testWatermark.et = s.et ∧ s.testWatermark.cm = s.cm ∧ s.testWatermark.er = s.er ∧
    s.testWatermark.ce = s.ce ∧ s.testWatermark.iu = s.iu ∧ s.testWatermark.tb = s.tb ∧ s.testWatermark.cu = s.cu ∧
    s.testWatermark.ra = s.ra ∧ s.testWatermark.pending = s.pending := by
  simp [State.testWatermark]

@[simp] theorem State.storeRecord_frame (x : EventRecord) (mayStore : Bool) :
    (s.storeRecord x mayStore).fl = s.fl ∧ (s.storeRecord x mayStore).cc = s.cc ∧
    (s.storeRecord x mayStore).ct = s.ct ∧ (s.storeRecord x mayStore).re = s.re ∧
    (s.storeRecord x mayStore).ps = s.ps ∧ (s.storeRecord x mayStore).et = s.et ∧
    (s.storeRecord x mayStore).cm = s.cm ∧ (s.storeRecord x mayStore).ce = s.ce ∧
    (s.storeRecord x mayStore).iu = s.iu ∧ (s.storeRecord x mayStore).tb = s.tb ∧
    (s.storeRecord x mayStore).cu = s.cu ∧ (s.storeRecord x mayStore).ra = s.ra ∧
    (s.storeRecord x mayStore).pending = s.pending := by
  unfold State.storeRecord; split <;> simp

/-! ### Intervals (Machine/Intervals.lean) -/

@[simp] theorem State.openInterval_frame (start : DeviceTime) :
    (s.openInterval start).fl = s.fl ∧ (s.openInterval start).cc = s.cc ∧ (s.openInterval start).ct = s.ct ∧
    (s.openInterval start).re = s.re ∧ (s.openInterval start).ps = s.ps ∧ (s.openInterval start).et = s.et ∧
    (s.openInterval start).cm = s.cm ∧ (s.openInterval start).er = s.er ∧ (s.openInterval start).ce = s.ce ∧
    (s.openInterval start).tb = s.tb ∧ (s.openInterval start).cu = s.cu ∧ (s.openInterval start).ra = s.ra ∧
    (s.openInterval start).nu = s.nu ∧ (s.openInterval start).pending = s.pending := by
  simp [State.openInterval]

@[simp] theorem State.markInterval_frame (f : IntervalFlag) (c : Bool) :
    (s.markInterval f c).fl = s.fl ∧ (s.markInterval f c).cc = s.cc ∧ (s.markInterval f c).ct = s.ct ∧
    (s.markInterval f c).re = s.re ∧ (s.markInterval f c).ps = s.ps ∧ (s.markInterval f c).et = s.et ∧
    (s.markInterval f c).cm = s.cm ∧ (s.markInterval f c).er = s.er ∧ (s.markInterval f c).ce = s.ce ∧
    (s.markInterval f c).tb = s.tb ∧ (s.markInterval f c).cu = s.cu ∧ (s.markInterval f c).ra = s.ra ∧
    (s.markInterval f c).nu = s.nu ∧ (s.markInterval f c).pending = s.pending := by
  simp [State.markInterval]

@[simp] theorem State.markAbsent_frame :
    s.markAbsent.fl = s.fl ∧ s.markAbsent.cc = s.cc ∧ s.markAbsent.ct = s.ct ∧ s.markAbsent.re = s.re ∧
    s.markAbsent.ps = s.ps ∧ s.markAbsent.et = s.et ∧ s.markAbsent.cm = s.cm ∧ s.markAbsent.er = s.er ∧
    s.markAbsent.ce = s.ce ∧ s.markAbsent.tb = s.tb ∧ s.markAbsent.cu = s.cu ∧ s.markAbsent.ra = s.ra ∧
    s.markAbsent.nu = s.nu ∧ s.markAbsent.pending = s.pending := by
  simp [State.markAbsent]

@[simp] theorem State.assignSegment_frame (d : SegmentDelivery) (event mixed : Bool) :
    (s.assignSegment d event mixed).fl = s.fl ∧ (s.assignSegment d event mixed).cc = s.cc ∧
    (s.assignSegment d event mixed).ct = s.ct ∧ (s.assignSegment d event mixed).re = s.re ∧
    (s.assignSegment d event mixed).ps = s.ps ∧ (s.assignSegment d event mixed).et = s.et ∧
    (s.assignSegment d event mixed).cm = s.cm ∧ (s.assignSegment d event mixed).er = s.er ∧
    (s.assignSegment d event mixed).ce = s.ce ∧ (s.assignSegment d event mixed).tb = s.tb ∧
    (s.assignSegment d event mixed).cu = s.cu ∧ (s.assignSegment d event mixed).ra = s.ra ∧
    (s.assignSegment d event mixed).nu = s.nu ∧ (s.assignSegment d event mixed).pending = s.pending := by
  unfold State.assignSegment; (repeat' split) <;> simp

@[simp] theorem State.logRecord_frame (v : Interval) (r : IntervalRecord) :
    (s.logRecord v r).fl = s.fl ∧ (s.logRecord v r).cc = s.cc ∧ (s.logRecord v r).ct = s.ct ∧
    (s.logRecord v r).re = s.re ∧ (s.logRecord v r).ps = s.ps ∧ (s.logRecord v r).et = s.et ∧
    (s.logRecord v r).cm = s.cm ∧ (s.logRecord v r).er = s.er ∧ (s.logRecord v r).ce = s.ce ∧
    (s.logRecord v r).tb = s.tb ∧ (s.logRecord v r).cu = s.cu ∧ (s.logRecord v r).ra = s.ra ∧
    (s.logRecord v r).nu = s.nu ∧ (s.logRecord v r).pending = s.pending := by
  unfold State.logRecord; split <;> simp

@[simp] theorem State.pushRecord_frame (logged : Bool) (index : Nat) :
    (s.pushRecord logged index).fl = s.fl ∧ (s.pushRecord logged index).cc = s.cc ∧
    (s.pushRecord logged index).ct = s.ct ∧ (s.pushRecord logged index).re = s.re ∧
    (s.pushRecord logged index).ps = s.ps ∧ (s.pushRecord logged index).et = s.et ∧
    (s.pushRecord logged index).cm = s.cm ∧ (s.pushRecord logged index).er = s.er ∧
    (s.pushRecord logged index).ce = s.ce ∧ (s.pushRecord logged index).iu = s.iu ∧
    (s.pushRecord logged index).tb = s.tb ∧ (s.pushRecord logged index).cu = s.cu ∧
    (s.pushRecord logged index).pending = s.pending := by
  unfold State.pushRecord; split <;> simp

@[simp] theorem State.testPeriod_frame (index : Nat) :
    (s.testPeriod index).fl = s.fl ∧ (s.testPeriod index).cc = s.cc ∧ (s.testPeriod index).ct = s.ct ∧
    (s.testPeriod index).re = s.re ∧ (s.testPeriod index).ps = s.ps ∧ (s.testPeriod index).et = s.et ∧
    (s.testPeriod index).cm = s.cm ∧ (s.testPeriod index).er = s.er ∧ (s.testPeriod index).ce = s.ce ∧
    (s.testPeriod index).tb = s.tb ∧ (s.testPeriod index).cu = s.cu ∧ (s.testPeriod index).ra = s.ra ∧
    (s.testPeriod index).pending = s.pending := by
  unfold State.testPeriod; split <;> simp

@[simp] theorem State.closeInterval_frame (v : Interval) (assessed : Bool) :
    (s.closeInterval v assessed).fl = s.fl ∧ (s.closeInterval v assessed).cc = s.cc ∧
    (s.closeInterval v assessed).ct = s.ct ∧ (s.closeInterval v assessed).re = s.re ∧
    (s.closeInterval v assessed).ps = s.ps ∧ (s.closeInterval v assessed).et = s.et ∧
    (s.closeInterval v assessed).cm = s.cm ∧ (s.closeInterval v assessed).er = s.er ∧
    (s.closeInterval v assessed).ce = s.ce ∧ (s.closeInterval v assessed).tb = s.tb ∧
    (s.closeInterval v assessed).cu = s.cu ∧ (s.closeInterval v assessed).pending = s.pending := by
  cases assessed <;> simp [State.closeInterval]

/-- The Interval Unit after an assessed close: the record appended where it is logged, the categories counted, the period
ended where it is complete (R138, R139, R143). -/
theorem State.closeInterval_iu (v : Interval) :
    (s.closeInterval v true).iu =
      (let u := (if s.iu.logs v then s.iu.append (v.record s.ps) else s.iu).countClose (v.record s.ps)
       if u.periodDone then u.endPeriod v.index else u) := by
  have h : (s.logRecord v (v.record s.ps)).iu = if s.iu.logs v then s.iu.append (v.record s.ps) else s.iu := by
    unfold State.logRecord; split <;> simp
  simp only [State.closeInterval, if_true, State.testPeriod]
  simp [h]
  generalize (if s.iu.logs v = true then s.iu.append (v.record s.ps) else s.iu).countClose (v.record s.ps) = u
  cases u.periodDone <;> simp [State.pushRecord_frame]

@[simp] theorem State.closeClosing_frame :
    s.closeClosing.fl = s.fl ∧ s.closeClosing.cc = s.cc ∧ s.closeClosing.ct = s.ct ∧ s.closeClosing.re = s.re ∧
    s.closeClosing.ps = s.ps ∧ s.closeClosing.et = s.et ∧ s.closeClosing.cm = s.cm ∧ s.closeClosing.er = s.er ∧
    s.closeClosing.ce = s.ce ∧ s.closeClosing.tb = s.tb ∧ s.closeClosing.cu = s.cu ∧
    s.closeClosing.pending = s.pending := by
  unfold State.closeClosing; split <;> simp

@[simp] theorem State.closeOrDefer_frame (v : Interval) :
    (s.closeOrDefer v).fl = s.fl ∧ (s.closeOrDefer v).cc = s.cc ∧ (s.closeOrDefer v).ct = s.ct ∧
    (s.closeOrDefer v).re = s.re ∧ (s.closeOrDefer v).ps = s.ps ∧ (s.closeOrDefer v).et = s.et ∧
    (s.closeOrDefer v).cm = s.cm ∧ (s.closeOrDefer v).er = s.er ∧ (s.closeOrDefer v).ce = s.ce ∧
    (s.closeOrDefer v).tb = s.tb ∧ (s.closeOrDefer v).cu = s.cu ∧ (s.closeOrDefer v).pending = s.pending := by
  unfold State.closeOrDefer; split <;> simp

@[simp] theorem State.reachIntervalEnd_frame :
    s.reachIntervalEnd.fl = s.fl ∧ s.reachIntervalEnd.cc = s.cc ∧ s.reachIntervalEnd.ct = s.ct ∧
    s.reachIntervalEnd.re = s.re ∧ s.reachIntervalEnd.ps = s.ps ∧ s.reachIntervalEnd.et = s.et ∧
    s.reachIntervalEnd.cm = s.cm ∧ s.reachIntervalEnd.er = s.er ∧ s.reachIntervalEnd.ce = s.ce ∧
    s.reachIntervalEnd.tb = s.tb ∧ s.reachIntervalEnd.cu = s.cu ∧ s.reachIntervalEnd.pending = s.pending := by
  unfold State.reachIntervalEnd; split <;> simp

@[simp] theorem State.stepInterval_frame (start : DeviceTime) (assessed : Bool) :
    (s.stepInterval start assessed).fl = s.fl ∧ (s.stepInterval start assessed).cc = s.cc ∧
    (s.stepInterval start assessed).ct = s.ct ∧ (s.stepInterval start assessed).re = s.re ∧
    (s.stepInterval start assessed).ps = s.ps ∧ (s.stepInterval start assessed).et = s.et ∧
    (s.stepInterval start assessed).cm = s.cm ∧ (s.stepInterval start assessed).er = s.er ∧
    (s.stepInterval start assessed).ce = s.ce ∧ (s.stepInterval start assessed).tb = s.tb ∧
    (s.stepInterval start assessed).cu = s.cu ∧ (s.stepInterval start assessed).pending = s.pending := by
  simp [State.stepInterval]

@[simp] theorem State.intervalLeave_frame :
    s.intervalLeave.fl = s.fl ∧ s.intervalLeave.cc = s.cc ∧ s.intervalLeave.ct = s.ct ∧ s.intervalLeave.re = s.re ∧
    s.intervalLeave.ps = s.ps ∧ s.intervalLeave.et = s.et ∧ s.intervalLeave.cm = s.cm ∧ s.intervalLeave.er = s.er ∧
    s.intervalLeave.ce = s.ce ∧ s.intervalLeave.tb = s.tb ∧ s.intervalLeave.cu = s.cu ∧
    s.intervalLeave.pending = s.pending := by
  simp [State.intervalLeave]

/-! ### Captures (Machine/Capture.lean) -/

@[simp] theorem State.flagEvent_frame (f : EventFlag) (c : Bool) :
    (s.flagEvent f c).fl = s.fl ∧ (s.flagEvent f c).cc = s.cc ∧ (s.flagEvent f c).ct = s.ct ∧
    (s.flagEvent f c).re = s.re ∧ (s.flagEvent f c).ps = s.ps ∧ (s.flagEvent f c).cm = s.cm ∧
    (s.flagEvent f c).er = s.er ∧ (s.flagEvent f c).ce = s.ce ∧ (s.flagEvent f c).iu = s.iu ∧
    (s.flagEvent f c).tb = s.tb ∧ (s.flagEvent f c).cu = s.cu ∧ (s.flagEvent f c).ra = s.ra ∧
    (s.flagEvent f c).nu = s.nu ∧ (s.flagEvent f c).pending = s.pending := by
  simp [State.flagEvent]

@[simp] theorem State.nameCapture_frame (event capture : Nat) :
    (s.nameCapture event capture).fl = s.fl ∧ (s.nameCapture event capture).cc = s.cc ∧
    (s.nameCapture event capture).ct = s.ct ∧ (s.nameCapture event capture).re = s.re ∧
    (s.nameCapture event capture).ps = s.ps ∧ (s.nameCapture event capture).cm = s.cm ∧
    (s.nameCapture event capture).ce = s.ce ∧ (s.nameCapture event capture).iu = s.iu ∧
    (s.nameCapture event capture).tb = s.tb ∧ (s.nameCapture event capture).cu = s.cu ∧
    (s.nameCapture event capture).ra = s.ra ∧ (s.nameCapture event capture).nu = s.nu ∧
    (s.nameCapture event capture).pending = s.pending := by
  simp [State.nameCapture]

@[simp] theorem State.removeCapture_frame (x : Capture) :
    (s.removeCapture x).fl = s.fl ∧ (s.removeCapture x).cc = s.cc ∧ (s.removeCapture x).ct = s.ct ∧
    (s.removeCapture x).re = s.re ∧ (s.removeCapture x).ps = s.ps ∧ (s.removeCapture x).cm = s.cm ∧
    (s.removeCapture x).iu = s.iu ∧ (s.removeCapture x).tb = s.tb ∧ (s.removeCapture x).cu = s.cu ∧
    (s.removeCapture x).ra = s.ra ∧ (s.removeCapture x).nu = s.nu ∧ (s.removeCapture x).pending = s.pending := by
  simp [State.removeCapture]

@[simp] theorem State.evictOldest_frame :
    s.evictOldest.fl = s.fl ∧ s.evictOldest.cc = s.cc ∧ s.evictOldest.ct = s.ct ∧ s.evictOldest.re = s.re ∧
    s.evictOldest.ps = s.ps ∧ s.evictOldest.cm = s.cm ∧ s.evictOldest.iu = s.iu ∧ s.evictOldest.tb = s.tb ∧
    s.evictOldest.cu = s.cu ∧ s.evictOldest.ra = s.ra ∧ s.evictOldest.pending = s.pending := by
  unfold State.evictOldest; split <;> simp

@[simp] theorem State.evictUntil_frame (n fuel : Nat) :
    (State.evictUntil n fuel s).fl = s.fl ∧ (State.evictUntil n fuel s).cc = s.cc ∧
    (State.evictUntil n fuel s).ct = s.ct ∧ (State.evictUntil n fuel s).re = s.re ∧
    (State.evictUntil n fuel s).ps = s.ps ∧ (State.evictUntil n fuel s).cm = s.cm ∧
    (State.evictUntil n fuel s).iu = s.iu ∧ (State.evictUntil n fuel s).tb = s.tb ∧
    (State.evictUntil n fuel s).cu = s.cu ∧ (State.evictUntil n fuel s).ra = s.ra ∧
    (State.evictUntil n fuel s).pending = s.pending := by
  induction fuel generalizing s with
  | zero => simp [State.evictUntil]
  | succ k ih => simp only [State.evictUntil]; split <;> simp [ih]

@[simp] theorem State.startCapture_frame (origin : CaptureOrigin) (joined : List Nat) (time : DeviceTime) :
    (s.startCapture origin joined time).fl = s.fl ∧ (s.startCapture origin joined time).cc = s.cc ∧
    (s.startCapture origin joined time).ct = s.ct ∧ (s.startCapture origin joined time).re = s.re ∧
    (s.startCapture origin joined time).ps = s.ps ∧ (s.startCapture origin joined time).cm = s.cm ∧
    (s.startCapture origin joined time).iu = s.iu ∧ (s.startCapture origin joined time).tb = s.tb ∧
    (s.startCapture origin joined time).cu = s.cu ∧ (s.startCapture origin joined time).ra = s.ra ∧
    (s.startCapture origin joined time).pending = s.pending := by
  simp [State.startCapture]

@[simp] theorem State.joinCapture_frame (c : Capture) (ident : Nat) :
    (s.joinCapture c ident).fl = s.fl ∧ (s.joinCapture c ident).cc = s.cc ∧ (s.joinCapture c ident).ct = s.ct ∧
    (s.joinCapture c ident).re = s.re ∧ (s.joinCapture c ident).ps = s.ps ∧ (s.joinCapture c ident).cm = s.cm ∧
    (s.joinCapture c ident).iu = s.iu ∧ (s.joinCapture c ident).tb = s.tb ∧ (s.joinCapture c ident).cu = s.cu ∧
    (s.joinCapture c ident).ra = s.ra ∧ (s.joinCapture c ident).nu = s.nu ∧
    (s.joinCapture c ident).pending = s.pending := by
  simp [State.joinCapture]

@[simp] theorem State.eventCapture_frame (ident : Nat) (time : DeviceTime) :
    (s.eventCapture ident time).fl = s.fl ∧ (s.eventCapture ident time).cc = s.cc ∧
    (s.eventCapture ident time).ct = s.ct ∧ (s.eventCapture ident time).re = s.re ∧
    (s.eventCapture ident time).ps = s.ps ∧ (s.eventCapture ident time).cm = s.cm ∧
    (s.eventCapture ident time).iu = s.iu ∧ (s.eventCapture ident time).tb = s.tb ∧
    (s.eventCapture ident time).cu = s.cu ∧ (s.eventCapture ident time).ra = s.ra ∧
    (s.eventCapture ident time).pending = s.pending := by
  unfold State.eventCapture; split <;> simp

@[simp] theorem State.offerCapture_frame (ident : Nat) (time : DeviceTime) :
    (s.offerCapture ident time).fl = s.fl ∧ (s.offerCapture ident time).cc = s.cc ∧
    (s.offerCapture ident time).ct = s.ct ∧ (s.offerCapture ident time).re = s.re ∧
    (s.offerCapture ident time).ps = s.ps ∧ (s.offerCapture ident time).cm = s.cm ∧
    (s.offerCapture ident time).iu = s.iu ∧ (s.offerCapture ident time).tb = s.tb ∧
    (s.offerCapture ident time).cu = s.cu ∧ (s.offerCapture ident time).ra = s.ra ∧
    (s.offerCapture ident time).pending = s.pending := by
  unfold State.offerCapture; (repeat' split) <;> simp

@[simp] theorem State.endFilling_frame (c : Capture) (truncated settle : Bool) :
    (s.endFilling c truncated settle).fl = s.fl ∧ (s.endFilling c truncated settle).cc = s.cc ∧
    (s.endFilling c truncated settle).ct = s.ct ∧ (s.endFilling c truncated settle).re = s.re ∧
    (s.endFilling c truncated settle).ps = s.ps ∧ (s.endFilling c truncated settle).cm = s.cm ∧
    (s.endFilling c truncated settle).er = s.er ∧ (s.endFilling c truncated settle).iu = s.iu ∧
    (s.endFilling c truncated settle).tb = s.tb ∧ (s.endFilling c truncated settle).cu = s.cu ∧
    (s.endFilling c truncated settle).ra = s.ra ∧ (s.endFilling c truncated settle).pending = s.pending := by
  simp [State.endFilling]

@[simp] theorem State.stopFilling_frame (truncated settle : Bool) :
    (s.stopFilling truncated settle).fl = s.fl ∧ (s.stopFilling truncated settle).cc = s.cc ∧
    (s.stopFilling truncated settle).ct = s.ct ∧ (s.stopFilling truncated settle).re = s.re ∧
    (s.stopFilling truncated settle).ps = s.ps ∧ (s.stopFilling truncated settle).cm = s.cm ∧
    (s.stopFilling truncated settle).er = s.er ∧ (s.stopFilling truncated settle).iu = s.iu ∧
    (s.stopFilling truncated settle).tb = s.tb ∧ (s.stopFilling truncated settle).cu = s.cu ∧
    (s.stopFilling truncated settle).ra = s.ra ∧ (s.stopFilling truncated settle).pending = s.pending := by
  unfold State.stopFilling; split <;> simp

@[simp] theorem State.storeWithBlock_frame (c : Capture) (f : FillState) (samples : List Int) (time : DeviceTime) :
    (s.storeWithBlock c f samples time).fl = s.fl ∧ (s.storeWithBlock c f samples time).cc = s.cc ∧
    (s.storeWithBlock c f samples time).ct = s.ct ∧ (s.storeWithBlock c f samples time).re = s.re ∧
    (s.storeWithBlock c f samples time).ps = s.ps ∧ (s.storeWithBlock c f samples time).cm = s.cm ∧
    (s.storeWithBlock c f samples time).iu = s.iu ∧ (s.storeWithBlock c f samples time).tb = s.tb ∧
    (s.storeWithBlock c f samples time).cu = s.cu ∧ (s.storeWithBlock c f samples time).ra = s.ra ∧
    (s.storeWithBlock c f samples time).pending = s.pending := by
  unfold State.storeWithBlock; simp only []; (repeat' split) <;> simp

@[simp] theorem State.captureEntry_frame (samples : List Int) (time : DeviceTime) :
    (s.captureEntry samples time).fl = s.fl ∧ (s.captureEntry samples time).cc = s.cc ∧
    (s.captureEntry samples time).ct = s.ct ∧ (s.captureEntry samples time).re = s.re ∧
    (s.captureEntry samples time).ps = s.ps ∧ (s.captureEntry samples time).cm = s.cm ∧
    (s.captureEntry samples time).iu = s.iu ∧ (s.captureEntry samples time).tb = s.tb ∧
    (s.captureEntry samples time).cu = s.cu ∧ (s.captureEntry samples time).ra = s.ra ∧
    (s.captureEntry samples time).pending = s.pending := by
  unfold State.captureEntry; (repeat' split) <;> simp

@[simp] theorem State.fillBoundary_frame :
    s.fillBoundary.fl = s.fl ∧ s.fillBoundary.cc = s.cc ∧ s.fillBoundary.ct = s.ct ∧ s.fillBoundary.re = s.re ∧
    s.fillBoundary.ps = s.ps ∧ s.fillBoundary.cm = s.cm ∧ s.fillBoundary.er = s.er ∧ s.fillBoundary.iu = s.iu ∧
    s.fillBoundary.tb = s.tb ∧ s.fillBoundary.cu = s.cu ∧ s.fillBoundary.ra = s.ra ∧
    s.fillBoundary.pending = s.pending := by
  unfold State.fillBoundary; (repeat' split) <;> simp

@[simp] theorem State.captureBoundary_frame (lag : Nat) :
    (s.captureBoundary lag).fl = s.fl ∧ (s.captureBoundary lag).cc = s.cc ∧ (s.captureBoundary lag).ct = s.ct ∧
    (s.captureBoundary lag).re = s.re ∧ (s.captureBoundary lag).ps = s.ps ∧ (s.captureBoundary lag).cm = s.cm ∧
    (s.captureBoundary lag).er = s.er ∧ (s.captureBoundary lag).iu = s.iu ∧ (s.captureBoundary lag).tb = s.tb ∧
    (s.captureBoundary lag).cu = s.cu ∧ (s.captureBoundary lag).ra = s.ra ∧
    (s.captureBoundary lag).pending = s.pending := by
  simp [State.captureBoundary]

@[simp] theorem State.discardCapture_frame (c : Capture) :
    (s.discardCapture c).fl = s.fl ∧ (s.discardCapture c).cc = s.cc ∧ (s.discardCapture c).ct = s.ct ∧
    (s.discardCapture c).re = s.re ∧ (s.discardCapture c).ps = s.ps ∧ (s.discardCapture c).cm = s.cm ∧
    (s.discardCapture c).iu = s.iu ∧ (s.discardCapture c).tb = s.tb ∧ (s.discardCapture c).cu = s.cu ∧
    (s.discardCapture c).ra = s.ra ∧ (s.discardCapture c).nu = s.nu ∧ (s.discardCapture c).pending = s.pending := by
  unfold State.discardCapture; split <;> simp

@[simp] theorem State.applyAction_frame (ident : Nat) (action : CaptureAction) (atBoundary : Bool) :
    (s.applyAction ident action atBoundary).fl = s.fl ∧ (s.applyAction ident action atBoundary).cc = s.cc ∧
    (s.applyAction ident action atBoundary).ct = s.ct ∧ (s.applyAction ident action atBoundary).re = s.re ∧
    (s.applyAction ident action atBoundary).ps = s.ps ∧ (s.applyAction ident action atBoundary).cm = s.cm ∧
    (s.applyAction ident action atBoundary).iu = s.iu ∧ (s.applyAction ident action atBoundary).tb = s.tb ∧
    (s.applyAction ident action atBoundary).cu = s.cu ∧ (s.applyAction ident action atBoundary).ra = s.ra ∧
    (s.applyAction ident action atBoundary).nu = s.nu ∧
    (s.applyAction ident action atBoundary).pending = s.pending := by
  unfold State.applyAction; (repeat' split) <;> simp

@[simp] theorem State.endReadout_frame (ident : Nat) :
    (s.endReadout ident).fl = s.fl ∧ (s.endReadout ident).cc = s.cc ∧ (s.endReadout ident).ct = s.ct ∧
    (s.endReadout ident).re = s.re ∧ (s.endReadout ident).ps = s.ps ∧ (s.endReadout ident).cm = s.cm ∧
    (s.endReadout ident).iu = s.iu ∧ (s.endReadout ident).tb = s.tb ∧ (s.endReadout ident).cu = s.cu ∧
    (s.endReadout ident).ra = s.ra ∧ (s.endReadout ident).nu = s.nu ∧ (s.endReadout ident).pending = s.pending := by
  unfold State.endReadout; (repeat' split) <;> simp

/-! ### Device time (Machine/Timebase.lean) -/

@[simp] theorem State.testClosing_frame :
    s.testClosing.fl = s.fl ∧ s.testClosing.cc = s.cc ∧ s.testClosing.ct = s.ct ∧ s.testClosing.re = s.re ∧
    s.testClosing.ps = s.ps ∧ s.testClosing.et = s.et ∧ s.testClosing.cm = s.cm ∧ s.testClosing.er = s.er ∧
    s.testClosing.ce = s.ce ∧ s.testClosing.tb = s.tb ∧ s.testClosing.cu = s.cu ∧
    s.testClosing.pending = s.pending := by
  unfold State.testClosing; split <;> simp

@[simp] theorem State.testInterval_frame :
    s.testInterval.fl = s.fl ∧ s.testInterval.cc = s.cc ∧ s.testInterval.ct = s.ct ∧ s.testInterval.re = s.re ∧
    s.testInterval.ps = s.ps ∧ s.testInterval.et = s.et ∧ s.testInterval.cm = s.cm ∧ s.testInterval.er = s.er ∧
    s.testInterval.ce = s.ce ∧ s.testInterval.tb = s.tb ∧ s.testInterval.cu = s.cu ∧
    s.testInterval.pending = s.pending := by
  unfold State.testInterval; split <;> simp

@[simp] theorem State.wake_frame (c : WakeCause) :
    (s.wake c).cc = s.cc ∧ (s.wake c).ct = s.ct ∧ (s.wake c).re = s.re ∧ (s.wake c).ps = s.ps ∧
    (s.wake c).et = s.et ∧ (s.wake c).cm = s.cm ∧ (s.wake c).er = s.er ∧ (s.wake c).ce = s.ce ∧
    (s.wake c).iu = s.iu ∧ (s.wake c).cu = s.cu ∧ (s.wake c).ra = s.ra ∧ (s.wake c).pending = s.pending := by
  simp [State.wake]

@[simp] theorem State.testCountdown_frame :
    s.testCountdown.cc = s.cc ∧ s.testCountdown.ct = s.ct ∧ s.testCountdown.re = s.re ∧ s.testCountdown.ps = s.ps ∧
    s.testCountdown.et = s.et ∧ s.testCountdown.cm = s.cm ∧ s.testCountdown.er = s.er ∧ s.testCountdown.ce = s.ce ∧
    s.testCountdown.iu = s.iu ∧ s.testCountdown.cu = s.cu ∧ s.testCountdown.ra = s.ra ∧
    s.testCountdown.pending = s.pending := by
  unfold State.testCountdown; simp only []; (repeat' split) <;> simp

@[simp] theorem State.advance_frame :
    s.advance.cc = s.cc ∧ s.advance.ct = s.ct ∧ s.advance.re = s.re ∧ s.advance.ps = s.ps ∧ s.advance.cm = s.cm ∧
    s.advance.er = s.er ∧ s.advance.ce = s.ce ∧ s.advance.cu = s.cu ∧ s.advance.pending = s.pending := by
  unfold State.advance; simp only []; (repeat' split) <;> simp

@[simp] theorem State.advanceBy_frame (n : Nat) :
    (State.advanceBy n s).cc = s.cc ∧ (State.advanceBy n s).ct = s.ct ∧ (State.advanceBy n s).re = s.re ∧
    (State.advanceBy n s).ps = s.ps ∧ (State.advanceBy n s).cm = s.cm ∧ (State.advanceBy n s).er = s.er ∧
    (State.advanceBy n s).ce = s.ce ∧ (State.advanceBy n s).cu = s.cu ∧ (State.advanceBy n s).pending = s.pending := by
  induction n generalizing s with
  | zero => simp [State.advanceBy]
  | succ k ih => simp [State.advanceBy, ih]

@[simp] theorem State.sourceLocal_frame :
    s.sourceLocal.fl = s.fl ∧ s.sourceLocal.cc = s.cc ∧ s.sourceLocal.ct = s.ct ∧ s.sourceLocal.re = s.re ∧
    s.sourceLocal.ps = s.ps ∧ s.sourceLocal.cm = s.cm ∧ s.sourceLocal.er = s.er ∧ s.sourceLocal.ce = s.ce ∧
    s.sourceLocal.cu = s.cu ∧ s.sourceLocal.ra = s.ra ∧ s.sourceLocal.nu = s.nu ∧
    s.sourceLocal.pending = s.pending := by
  simp [State.sourceLocal]

@[simp] theorem State.sourceFrame_frame :
    s.sourceFrame.fl = s.fl ∧ s.sourceFrame.cc = s.cc ∧ s.sourceFrame.ct = s.ct ∧ s.sourceFrame.re = s.re ∧
    s.sourceFrame.ps = s.ps ∧ s.sourceFrame.et = s.et ∧ s.sourceFrame.cm = s.cm ∧ s.sourceFrame.er = s.er ∧
    s.sourceFrame.ce = s.ce ∧ s.sourceFrame.iu = s.iu ∧ s.sourceFrame.cu = s.cu ∧ s.sourceFrame.ra = s.ra ∧
    s.sourceFrame.nu = s.nu ∧ s.sourceFrame.pending = s.pending := by
  simp [State.sourceFrame]

/-! ### Events (Machine/Events.lean) -/

@[simp] theorem State.emptyContext_frame :
    s.emptyContext.fl = s.fl ∧ s.emptyContext.cc = s.cc ∧ s.emptyContext.ct = s.ct ∧ s.emptyContext.re = s.re ∧
    s.emptyContext.ps = s.ps ∧ s.emptyContext.cm = s.cm ∧ s.emptyContext.er = s.er ∧ s.emptyContext.ce = s.ce ∧
    s.emptyContext.iu = s.iu ∧ s.emptyContext.tb = s.tb ∧ s.emptyContext.cu = s.cu ∧ s.emptyContext.ra = s.ra ∧
    s.emptyContext.nu = s.nu ∧ s.emptyContext.pending = s.pending := by
  simp [State.emptyContext]

@[simp] theorem State.announceClose_frame (ident : Nat) :
    (s.announceClose ident).fl = s.fl ∧ (s.announceClose ident).cc = s.cc ∧ (s.announceClose ident).ct = s.ct ∧
    (s.announceClose ident).re = s.re ∧ (s.announceClose ident).ps = s.ps ∧ (s.announceClose ident).et = s.et ∧
    (s.announceClose ident).cm = s.cm ∧ (s.announceClose ident).er = s.er ∧ (s.announceClose ident).ce = s.ce ∧
    (s.announceClose ident).iu = s.iu ∧ (s.announceClose ident).tb = s.tb ∧ (s.announceClose ident).cu = s.cu ∧
    (s.announceClose ident).pending = s.pending := by
  simp [State.announceClose]

@[simp] theorem State.announceOpen_frame (ident : Nat) :
    (s.announceOpen ident).fl = s.fl ∧ (s.announceOpen ident).cc = s.cc ∧ (s.announceOpen ident).ct = s.ct ∧
    (s.announceOpen ident).re = s.re ∧ (s.announceOpen ident).ps = s.ps ∧ (s.announceOpen ident).et = s.et ∧
    (s.announceOpen ident).cm = s.cm ∧ (s.announceOpen ident).er = s.er ∧ (s.announceOpen ident).ce = s.ce ∧
    (s.announceOpen ident).iu = s.iu ∧ (s.announceOpen ident).tb = s.tb ∧ (s.announceOpen ident).cu = s.cu ∧
    (s.announceOpen ident).pending = s.pending := by
  simp [State.announceOpen]

@[simp] theorem State.handOnSupply_frame (x : EventContext) (duration : Nat) (atBoundary : Bool) :
    (s.handOnSupply x duration atBoundary).fl = s.fl ∧ (s.handOnSupply x duration atBoundary).cc = s.cc ∧
    (s.handOnSupply x duration atBoundary).ct = s.ct ∧ (s.handOnSupply x duration atBoundary).re = s.re ∧
    (s.handOnSupply x duration atBoundary).ps = s.ps ∧ (s.handOnSupply x duration atBoundary).iu = s.iu ∧
    (s.handOnSupply x duration atBoundary).tb = s.tb ∧ (s.handOnSupply x duration atBoundary).cu = s.cu ∧
    (s.handOnSupply x duration atBoundary).pending = s.pending := by
  unfold State.handOnSupply; simp only []; (repeat' split) <;> simp

@[simp] theorem State.handOnGap_frame (x : EventContext) (duration : Nat) :
    (s.handOnGap x duration).fl = s.fl ∧ (s.handOnGap x duration).cc = s.cc ∧ (s.handOnGap x duration).ct = s.ct ∧
    (s.handOnGap x duration).re = s.re ∧ (s.handOnGap x duration).ps = s.ps ∧ (s.handOnGap x duration).cm = s.cm ∧
    (s.handOnGap x duration).ce = s.ce ∧ (s.handOnGap x duration).iu = s.iu ∧ (s.handOnGap x duration).tb = s.tb ∧
    (s.handOnGap x duration).cu = s.cu ∧ (s.handOnGap x duration).pending = s.pending := by
  unfold State.handOnGap; split <;> simp

@[simp] theorem State.enterContext_frame (x : EventContext) :
    (s.enterContext x).fl = s.fl ∧ (s.enterContext x).cc = s.cc ∧ (s.enterContext x).ct = s.ct ∧
    (s.enterContext x).re = s.re ∧ (s.enterContext x).ps = s.ps ∧ (s.enterContext x).cm = s.cm ∧
    (s.enterContext x).ce = s.ce ∧ (s.enterContext x).iu = s.iu ∧ (s.enterContext x).tb = s.tb ∧
    (s.enterContext x).cu = s.cu ∧ (s.enterContext x).ra = s.ra ∧ (s.enterContext x).pending = s.pending := by
  simp [State.enterContext]

@[simp] theorem State.openSupply_frame (rms : PerPhase (Option Refreshed)) (start : DeviceTime) (lag : Nat) :
    (s.openSupply rms start lag).fl = s.fl ∧ (s.openSupply rms start lag).cc = s.cc ∧ (s.openSupply rms start lag).ct = s.ct ∧
    (s.openSupply rms start lag).re = s.re ∧ (s.openSupply rms start lag).ps = s.ps ∧ (s.openSupply rms start lag).cm = s.cm ∧
    (s.openSupply rms start lag).iu = s.iu ∧ (s.openSupply rms start lag).tb = s.tb ∧ (s.openSupply rms start lag).cu = s.cu ∧
    (s.openSupply rms start lag).pending = s.pending := by
  simp [State.openSupply]

@[simp] theorem State.openGap_frame :
    s.openGap.fl = s.fl ∧ s.openGap.cc = s.cc ∧ s.openGap.ct = s.ct ∧ s.openGap.re = s.re ∧ s.openGap.ps = s.ps ∧
    s.openGap.cm = s.cm ∧ s.openGap.ce = s.ce ∧ s.openGap.iu = s.iu ∧ s.openGap.tb = s.tb ∧ s.openGap.cu = s.cu ∧
    s.openGap.pending = s.pending := by
  simp [State.openGap]

@[simp] theorem State.closeGap_frame (lag : Nat) :
    (s.closeGap lag).fl = s.fl ∧ (s.closeGap lag).cc = s.cc ∧ (s.closeGap lag).ct = s.ct ∧
    (s.closeGap lag).re = s.re ∧ (s.closeGap lag).ps = s.ps ∧ (s.closeGap lag).cm = s.cm ∧
    (s.closeGap lag).ce = s.ce ∧ (s.closeGap lag).iu = s.iu ∧ (s.closeGap lag).tb = s.tb ∧
    (s.closeGap lag).cu = s.cu ∧ (s.closeGap lag).pending = s.pending := by
  unfold State.closeGap; (repeat' split) <;> simp

@[simp] theorem State.actOnDetectors_frame (rms : PerPhase (Option Refreshed)) (start : DeviceTime) (lag : Nat) :
    (s.actOnDetectors rms start lag).fl = s.fl ∧ (s.actOnDetectors rms start lag).cc = s.cc ∧
    (s.actOnDetectors rms start lag).ct = s.ct ∧ (s.actOnDetectors rms start lag).re = s.re ∧
    (s.actOnDetectors rms start lag).ps = s.ps ∧ (s.actOnDetectors rms start lag).iu = s.iu ∧
    (s.actOnDetectors rms start lag).tb = s.tb ∧ (s.actOnDetectors rms start lag).cu = s.cu ∧
    (s.actOnDetectors rms start lag).pending = s.pending := by
  unfold State.actOnDetectors; (repeat' split) <;> simp

@[simp] theorem State.eventBoundary_frame (rms : PerPhase (Option Refreshed)) (start : DeviceTime) (lag : Nat) :
    (s.eventBoundary rms start lag).fl = s.fl ∧ (s.eventBoundary rms start lag).cc = s.cc ∧
    (s.eventBoundary rms start lag).ct = s.ct ∧ (s.eventBoundary rms start lag).re = s.re ∧
    (s.eventBoundary rms start lag).ps = s.ps ∧ (s.eventBoundary rms start lag).iu = s.iu ∧
    (s.eventBoundary rms start lag).tb = s.tb ∧ (s.eventBoundary rms start lag).cu = s.cu ∧
    (s.eventBoundary rms start lag).pending = s.pending := by
  simp [State.eventBoundary]

@[simp] theorem State.normalDetectors_frame :
    s.normalDetectors.fl = s.fl ∧ s.normalDetectors.cc = s.cc ∧ s.normalDetectors.ct = s.ct ∧
    s.normalDetectors.re = s.re ∧ s.normalDetectors.ps = s.ps ∧ s.normalDetectors.cm = s.cm ∧
    s.normalDetectors.er = s.er ∧ s.normalDetectors.ce = s.ce ∧ s.normalDetectors.iu = s.iu ∧
    s.normalDetectors.tb = s.tb ∧ s.normalDetectors.cu = s.cu ∧ s.normalDetectors.ra = s.ra ∧
    s.normalDetectors.nu = s.nu ∧ s.normalDetectors.pending = s.pending := by
  simp [State.normalDetectors]

@[simp] theorem State.cutSupply_frame (x : EventContext) (f : EventFlag) :
    (s.cutSupply x f).fl = s.fl ∧ (s.cutSupply x f).cc = s.cc ∧ (s.cutSupply x f).ct = s.ct ∧
    (s.cutSupply x f).re = s.re ∧ (s.cutSupply x f).ps = s.ps ∧ (s.cutSupply x f).iu = s.iu ∧
    (s.cutSupply x f).tb = s.tb ∧ (s.cutSupply x f).cu = s.cu ∧ (s.cutSupply x f).pending = s.pending := by
  simp [State.cutSupply]

@[simp] theorem State.stopEvents_frame :
    s.stopEvents.fl = s.fl ∧ s.stopEvents.cc = s.cc ∧ s.stopEvents.ct = s.ct ∧ s.stopEvents.re = s.re ∧
    s.stopEvents.ps = s.ps ∧ s.stopEvents.iu = s.iu ∧ s.stopEvents.tb = s.tb ∧ s.stopEvents.cu = s.cu ∧
    s.stopEvents.pending = s.pending := by
  unfold State.stopEvents; (repeat' split) <;> simp

@[simp] theorem State.presume_frame (x : EventContext) :
    (s.presume x).fl = s.fl ∧ (s.presume x).cc = s.cc ∧ (s.presume x).ct = s.ct ∧ (s.presume x).re = s.re ∧
    (s.presume x).ps = s.ps ∧ (s.presume x).cm = s.cm ∧ (s.presume x).er = s.er ∧ (s.presume x).ce = s.ce ∧
    (s.presume x).iu = s.iu ∧ (s.presume x).tb = s.tb ∧ (s.presume x).cu = s.cu ∧ (s.presume x).ra = s.ra ∧
    (s.presume x).nu = s.nu ∧ (s.presume x).pending = s.pending := by
  simp [State.presume]

@[simp] theorem State.lossEvents_frame :
    s.lossEvents.fl = s.fl ∧ s.lossEvents.cc = s.cc ∧ s.lossEvents.ct = s.ct ∧ s.lossEvents.re = s.re ∧
    s.lossEvents.ps = s.ps ∧ s.lossEvents.iu = s.iu ∧ s.lossEvents.tb = s.tb ∧ s.lossEvents.cu = s.cu ∧
    s.lossEvents.pending = s.pending := by
  unfold State.lossEvents; (repeat' split) <;> simp

/-! ### Boundaries and frames of the data path (Machine/Boundary.lean) -/

@[simp] theorem State.pairsAtBoundary_frame (k : Nat) :
    (s.pairsAtBoundary k).fl = s.fl ∧ (s.pairsAtBoundary k).ct = s.ct ∧ (s.pairsAtBoundary k).ps = s.ps ∧
    (s.pairsAtBoundary k).et = s.et ∧ (s.pairsAtBoundary k).cm = s.cm ∧ (s.pairsAtBoundary k).er = s.er ∧
    (s.pairsAtBoundary k).ce = s.ce ∧ (s.pairsAtBoundary k).iu = s.iu ∧ (s.pairsAtBoundary k).tb = s.tb ∧
    (s.pairsAtBoundary k).cu = s.cu ∧ (s.pairsAtBoundary k).ra = s.ra ∧ (s.pairsAtBoundary k).nu = s.nu ∧
    (s.pairsAtBoundary k).pending = s.pending := by
  simp [State.pairsAtBoundary]

@[simp] theorem State.rmsBoundary_frame (d : Decision) :
    (s.rmsBoundary d).fl = s.fl ∧ (s.rmsBoundary d).cc = s.cc ∧ (s.rmsBoundary d).ct = s.ct ∧
    (s.rmsBoundary d).ps = s.ps ∧ (s.rmsBoundary d).et = s.et ∧ (s.rmsBoundary d).cm = s.cm ∧
    (s.rmsBoundary d).er = s.er ∧ (s.rmsBoundary d).ce = s.ce ∧ (s.rmsBoundary d).iu = s.iu ∧
    (s.rmsBoundary d).tb = s.tb ∧ (s.rmsBoundary d).cu = s.cu ∧ (s.rmsBoundary d).ra = s.ra ∧
    (s.rmsBoundary d).nu = s.nu ∧ (s.rmsBoundary d).pending = s.pending := by
  simp [State.rmsBoundary]

@[simp] theorem State.takeSwitch_frame :
    s.takeSwitch.fl = s.fl ∧ s.takeSwitch.cc = s.cc ∧ s.takeSwitch.ct = s.ct ∧ s.takeSwitch.re = s.re ∧
    s.takeSwitch.cm = s.cm ∧ s.takeSwitch.er = s.er ∧ s.takeSwitch.ce = s.ce ∧ s.takeSwitch.iu = s.iu ∧
    s.takeSwitch.tb = s.tb ∧ s.takeSwitch.cu = s.cu ∧ s.takeSwitch.ra = s.ra ∧ s.takeSwitch.pending = s.pending := by
  unfold State.takeSwitch; split <;> simp

@[simp] theorem State.firstRefreshed_frame (delivered : Bool) :
    (s.firstRefreshed delivered).fl = s.fl ∧ (s.firstRefreshed delivered).ct = s.ct ∧
    (s.firstRefreshed delivered).re = s.re ∧ (s.firstRefreshed delivered).ps = s.ps ∧
    (s.firstRefreshed delivered).et = s.et ∧ (s.firstRefreshed delivered).cm = s.cm ∧
    (s.firstRefreshed delivered).er = s.er ∧ (s.firstRefreshed delivered).ce = s.ce ∧
    (s.firstRefreshed delivered).iu = s.iu ∧ (s.firstRefreshed delivered).tb = s.tb ∧
    (s.firstRefreshed delivered).cu = s.cu ∧ (s.firstRefreshed delivered).ra = s.ra ∧
    (s.firstRefreshed delivered).nu = s.nu ∧ (s.firstRefreshed delivered).pending = s.pending := by
  unfold State.firstRefreshed; split <;> simp

@[simp] theorem State.trackerBoundary_frame (d : Decision) :
    (s.trackerBoundary d).fl = s.fl ∧ (s.trackerBoundary d).cc = s.cc ∧ (s.trackerBoundary d).re = s.re ∧
    (s.trackerBoundary d).ps = s.ps ∧ (s.trackerBoundary d).et = s.et ∧ (s.trackerBoundary d).cm = s.cm ∧
    (s.trackerBoundary d).er = s.er ∧ (s.trackerBoundary d).ce = s.ce ∧ (s.trackerBoundary d).iu = s.iu ∧
    (s.trackerBoundary d).tb = s.tb ∧ (s.trackerBoundary d).cu = s.cu ∧ (s.trackerBoundary d).ra = s.ra ∧
    (s.trackerBoundary d).pending = s.pending := by
  simp [State.trackerBoundary]

@[simp] theorem State.eventsAtBoundary_frame (r : Option (PerPhase (Option Refreshed))) (start : DeviceTime) (lag : Nat) :
    (s.eventsAtBoundary r start lag).fl = s.fl ∧ (s.eventsAtBoundary r start lag).cc = s.cc ∧
    (s.eventsAtBoundary r start lag).ct = s.ct ∧ (s.eventsAtBoundary r start lag).re = s.re ∧
    (s.eventsAtBoundary r start lag).ps = s.ps ∧ (s.eventsAtBoundary r start lag).iu = s.iu ∧
    (s.eventsAtBoundary r start lag).tb = s.tb ∧ (s.eventsAtBoundary r start lag).cu = s.cu ∧
    (s.eventsAtBoundary r start lag).pending = s.pending := by
  unfold State.eventsAtBoundary; split <;> simp

@[simp] theorem State.intervalBoundary_frame (before : Bool) (seg : Option SegmentDelivery) (mixed : Bool) :
    (s.intervalBoundary before seg mixed).fl = s.fl ∧ (s.intervalBoundary before seg mixed).cc = s.cc ∧
    (s.intervalBoundary before seg mixed).ct = s.ct ∧ (s.intervalBoundary before seg mixed).re = s.re ∧
    (s.intervalBoundary before seg mixed).ps = s.ps ∧ (s.intervalBoundary before seg mixed).et = s.et ∧
    (s.intervalBoundary before seg mixed).cm = s.cm ∧ (s.intervalBoundary before seg mixed).er = s.er ∧
    (s.intervalBoundary before seg mixed).ce = s.ce ∧ (s.intervalBoundary before seg mixed).tb = s.tb ∧
    (s.intervalBoundary before seg mixed).cu = s.cu ∧ (s.intervalBoundary before seg mixed).pending = s.pending := by
  unfold State.intervalBoundary; split <;> simp

@[simp] theorem State.noteBoundary_frame (d : Decision) (segment : Bool) :
    (s.noteBoundary d segment).fl = s.fl ∧ (s.noteBoundary d segment).cc = s.cc ∧
    (s.noteBoundary d segment).ct = s.ct ∧ (s.noteBoundary d segment).re = s.re ∧
    (s.noteBoundary d segment).ps = s.ps ∧ (s.noteBoundary d segment).et = s.et ∧
    (s.noteBoundary d segment).cm = s.cm ∧ (s.noteBoundary d segment).er = s.er ∧
    (s.noteBoundary d segment).ce = s.ce ∧ (s.noteBoundary d segment).iu = s.iu ∧
    (s.noteBoundary d segment).tb = s.tb ∧ (s.noteBoundary d segment).cu = s.cu ∧
    (s.noteBoundary d segment).ra = s.ra ∧ (s.noteBoundary d segment).nu = s.nu ∧
    (s.noteBoundary d segment).pending = s.pending := by
  unfold State.noteBoundary; (repeat' split) <;> simp

@[simp] theorem State.handOn_frame (d : Decision) :
    (s.handOn d).fl = s.fl ∧ (s.handOn d).tb = s.tb ∧ (s.handOn d).cu = s.cu ∧ (s.handOn d).pending = s.pending := by
  simp only [State.handOn]; split <;> simp

@[simp] theorem State.trackFrame_frame (r : FrameRecord) :
    (s.trackFrame r).fl = s.fl ∧ (s.trackFrame r).tb = s.tb ∧ (s.trackFrame r).cu = s.cu ∧
    (s.trackFrame r).pending = s.pending := by
  unfold State.trackFrame; simp only []; (repeat' split) <;> simp

@[simp] theorem State.dataFrame_frame (f : FrameContent) (substituted : Bool) :
    (s.dataFrame f substituted).fl = s.fl ∧ (s.dataFrame f substituted).tb = s.tb ∧
    (s.dataFrame f substituted).cu = s.cu ∧ (s.dataFrame f substituted).pending = s.pending := by
  unfold State.dataFrame; split <;> simp

/-! ### Measurement (Machine/Measurement.lean) -/

@[simp] theorem State.applyPairs_frame :
    s.applyPairs.fl = s.fl ∧ s.applyPairs.ct = s.ct ∧ s.applyPairs.re = s.re ∧ s.applyPairs.ps = s.ps ∧
    s.applyPairs.et = s.et ∧ s.applyPairs.cm = s.cm ∧ s.applyPairs.er = s.er ∧ s.applyPairs.ce = s.ce ∧
    s.applyPairs.iu = s.iu ∧ s.applyPairs.tb = s.tb ∧ s.applyPairs.cu = s.cu ∧ s.applyPairs.ra = s.ra ∧
    s.applyPairs.nu = s.nu ∧ s.applyPairs.pending = s.pending := by
  simp [State.applyPairs]

@[simp] theorem State.setMeasurement_frame (m : MeasurementState) :
    (s.setMeasurement m).fl = s.fl ∧ (s.setMeasurement m).ct = s.ct ∧ (s.setMeasurement m).re = s.re ∧
    (s.setMeasurement m).ps = s.ps ∧ (s.setMeasurement m).et = s.et ∧ (s.setMeasurement m).cm = s.cm ∧
    (s.setMeasurement m).er = s.er ∧ (s.setMeasurement m).ce = s.ce ∧ (s.setMeasurement m).iu = s.iu ∧
    (s.setMeasurement m).tb = s.tb ∧ (s.setMeasurement m).cu = s.cu ∧ (s.setMeasurement m).ra = s.ra ∧
    (s.setMeasurement m).nu = s.nu ∧ (s.setMeasurement m).pending = s.pending := by
  simp [State.setMeasurement]

@[simp] theorem State.restart_frame :
    s.restart.fl = s.fl ∧ s.restart.ps = s.ps ∧ s.restart.et = s.et ∧ s.restart.cm = s.cm ∧ s.restart.er = s.er ∧
    s.restart.tb = s.tb ∧ s.restart.cu = s.cu ∧ s.restart.ra = s.ra ∧ s.restart.nu = s.nu ∧
    s.restart.pending = s.pending := by
  simp [State.restart]

@[simp] theorem State.notReady_frame :
    s.notReady.fl = s.fl ∧ s.notReady.cc = s.cc ∧ s.notReady.ct = s.ct ∧ s.notReady.re = s.re ∧
    s.notReady.ps = s.ps ∧ s.notReady.et = s.et ∧ s.notReady.cm = s.cm ∧ s.notReady.er = s.er ∧
    s.notReady.iu = s.iu ∧ s.notReady.tb = s.tb ∧ s.notReady.cu = s.cu ∧ s.notReady.ra = s.ra ∧
    s.notReady.nu = s.nu ∧ s.notReady.pending = s.pending := by
  simp [State.notReady]

@[simp] theorem State.suspend_frame :
    s.suspend.fl = s.fl ∧ s.suspend.ct = s.ct ∧ s.suspend.re = s.re ∧ s.suspend.ps = s.ps ∧ s.suspend.cm = s.cm ∧
    s.suspend.er = s.er ∧ s.suspend.tb = s.tb ∧ s.suspend.cu = s.cu ∧ s.suspend.pending = s.pending := by
  unfold State.suspend; split <;> simp

@[simp] theorem State.realign_frame :
    s.realign.fl = s.fl ∧ s.realign.ps = s.ps ∧ s.realign.et = s.et ∧ s.realign.cm = s.cm ∧ s.realign.er = s.er ∧
    s.realign.tb = s.tb ∧ s.realign.cu = s.cu ∧ s.realign.ra = s.ra ∧ s.realign.nu = s.nu ∧
    s.realign.pending = s.pending := by
  unfold State.realign; split <;> simp

@[simp] theorem State.startMeasurement_frame :
    s.startMeasurement.fl = s.fl ∧ s.startMeasurement.ps = s.ps ∧ s.startMeasurement.cm = s.cm ∧
    s.startMeasurement.tb = s.tb ∧ s.startMeasurement.cu = s.cu ∧ s.startMeasurement.pending = s.pending := by
  unfold State.startMeasurement; split <;> simp

@[simp] theorem State.settleStopped_frame :
    s.settleStopped.fl = s.fl ∧ s.settleStopped.cc = s.cc ∧ s.settleStopped.ct = s.ct ∧ s.settleStopped.re = s.re ∧
    s.settleStopped.ps = s.ps ∧ s.settleStopped.et = s.et ∧ s.settleStopped.cm = s.cm ∧ s.settleStopped.er = s.er ∧
    s.settleStopped.iu = s.iu ∧ s.settleStopped.tb = s.tb ∧ s.settleStopped.cu = s.cu ∧ s.settleStopped.ra = s.ra ∧
    s.settleStopped.pending = s.pending := by
  unfold State.settleStopped; split <;> simp

@[simp] theorem State.stopInterval_frame (measuring : Bool) :
    (s.stopInterval measuring).fl = s.fl ∧ (s.stopInterval measuring).cc = s.cc ∧
    (s.stopInterval measuring).ct = s.ct ∧ (s.stopInterval measuring).re = s.re ∧
    (s.stopInterval measuring).ps = s.ps ∧ (s.stopInterval measuring).et = s.et ∧
    (s.stopInterval measuring).cm = s.cm ∧ (s.stopInterval measuring).er = s.er ∧
    (s.stopInterval measuring).ce = s.ce ∧ (s.stopInterval measuring).tb = s.tb ∧
    (s.stopInterval measuring).cu = s.cu ∧ (s.stopInterval measuring).pending = s.pending := by
  unfold State.stopInterval; split <;> simp

@[simp] theorem State.stopMeasurement_frame :
    s.stopMeasurement.fl = s.fl ∧ s.stopMeasurement.ct = s.ct ∧ s.stopMeasurement.re = s.re ∧
    s.stopMeasurement.ps = s.ps ∧ s.stopMeasurement.tb = s.tb ∧ s.stopMeasurement.cu = s.cu ∧
    s.stopMeasurement.pending = s.pending := by
  unfold State.stopMeasurement; split <;> simp

/-! ### The inbound lane (Machine/Lane.lean) -/

@[simp] theorem State.enterLost_frame (fl : FrameLink) :
    (s.enterLost fl).cc = s.cc ∧ (s.enterLost fl).ct = s.ct ∧ (s.enterLost fl).re = s.re ∧
    (s.enterLost fl).ps = s.ps ∧ (s.enterLost fl).iu = s.iu ∧ (s.enterLost fl).cu = s.cu ∧
    (s.enterLost fl).pending = s.pending := by
  simp [State.enterLost]

@[simp] theorem State.huntToLost_frame :
    s.huntToLost.cc = s.cc ∧ s.huntToLost.ct = s.ct ∧ s.huntToLost.re = s.re ∧ s.huntToLost.ps = s.ps ∧
    s.huntToLost.iu = s.iu ∧ s.huntToLost.cu = s.cu ∧ s.huntToLost.pending = s.pending := by
  simp [State.huntToLost]

@[simp] theorem State.leaveCheck_frame :
    s.leaveCheck.cc = s.cc ∧ s.leaveCheck.ct = s.ct ∧ s.leaveCheck.re = s.re ∧ s.leaveCheck.ps = s.ps ∧
    s.leaveCheck.iu = s.iu ∧ s.leaveCheck.cu = s.cu ∧ s.leaveCheck.pending = s.pending := by
  unfold State.leaveCheck; split <;> simp

@[simp] theorem State.loseAlignment_frame :
    s.loseAlignment.ct = s.ct ∧ s.loseAlignment.re = s.re ∧ s.loseAlignment.ps = s.ps ∧ s.loseAlignment.cm = s.cm ∧
    s.loseAlignment.er = s.er ∧ s.loseAlignment.cu = s.cu ∧ s.loseAlignment.pending = s.pending := by
  simp [State.loseAlignment]

@[simp] theorem State.enterCheck_frame (f : InboundFrame) :
    (s.enterCheck f).cc = s.cc ∧ (s.enterCheck f).ct = s.ct ∧ (s.enterCheck f).re = s.re ∧
    (s.enterCheck f).ps = s.ps ∧ (s.enterCheck f).et = s.et ∧ (s.enterCheck f).cm = s.cm ∧
    (s.enterCheck f).er = s.er ∧ (s.enterCheck f).ce = s.ce ∧ (s.enterCheck f).iu = s.iu ∧
    (s.enterCheck f).tb = s.tb ∧ (s.enterCheck f).cu = s.cu ∧ (s.enterCheck f).ra = s.ra ∧
    (s.enterCheck f).pending = s.pending := by
  simp [State.enterCheck]

@[simp] theorem State.passTimeout_frame :
    s.passTimeout.cc = s.cc ∧ s.passTimeout.ct = s.ct ∧ s.passTimeout.re = s.re ∧ s.passTimeout.ps = s.ps ∧
    s.passTimeout.iu = s.iu ∧ s.passTimeout.cu = s.cu ∧ s.passTimeout.pending = s.pending := by
  unfold State.passTimeout; simp only []; (repeat' split) <;> simp

@[simp] theorem State.testTimeout_frame :
    s.testTimeout.cc = s.cc ∧ s.testTimeout.ct = s.ct ∧ s.testTimeout.re = s.re ∧ s.testTimeout.ps = s.ps ∧
    s.testTimeout.iu = s.iu ∧ s.testTimeout.cu = s.cu ∧ s.testTimeout.pending = s.pending := by
  unfold State.testTimeout; split <;> simp

@[simp] theorem State.countBreak_frame :
    s.countBreak.cc = s.cc ∧ s.countBreak.ct = s.ct ∧ s.countBreak.re = s.re ∧ s.countBreak.ps = s.ps ∧
    s.countBreak.et = s.et ∧ s.countBreak.cm = s.cm ∧ s.countBreak.er = s.er ∧ s.countBreak.ce = s.ce ∧
    s.countBreak.tb = s.tb ∧ s.countBreak.cu = s.cu ∧ s.countBreak.ra = s.ra ∧ s.countBreak.nu = s.nu ∧
    s.countBreak.pending = s.pending := by
  unfold State.countBreak; split <;> simp

@[simp] theorem State.becomeAligned_frame :
    s.becomeAligned.ps = s.ps ∧ s.becomeAligned.et = s.et ∧ s.becomeAligned.cm = s.cm ∧ s.becomeAligned.er = s.er ∧
    s.becomeAligned.cu = s.cu ∧ s.becomeAligned.ra = s.ra ∧ s.becomeAligned.pending = s.pending := by
  simp [State.becomeAligned]

/-! ### The Command Unit (Machine/Command.lean) -/

@[simp] theorem State.placeOrWait_frame (x : Response) :
    (s.placeOrWait x).fl = s.fl ∧ (s.placeOrWait x).cc = s.cc ∧ (s.placeOrWait x).ct = s.ct ∧
    (s.placeOrWait x).re = s.re ∧ (s.placeOrWait x).ps = s.ps ∧ (s.placeOrWait x).et = s.et ∧
    (s.placeOrWait x).cm = s.cm ∧ (s.placeOrWait x).er = s.er ∧ (s.placeOrWait x).ce = s.ce ∧
    (s.placeOrWait x).iu = s.iu ∧ (s.placeOrWait x).tb = s.tb ∧ (s.placeOrWait x).nu = s.nu ∧
    (s.placeOrWait x).pending = s.pending := by
  unfold State.placeOrWait; split <;> simp

@[simp] theorem State.placeOrDrop_frame (x : Response) :
    (s.placeOrDrop x).fl = s.fl ∧ (s.placeOrDrop x).cc = s.cc ∧ (s.placeOrDrop x).ct = s.ct ∧
    (s.placeOrDrop x).re = s.re ∧ (s.placeOrDrop x).ps = s.ps ∧ (s.placeOrDrop x).et = s.et ∧
    (s.placeOrDrop x).cm = s.cm ∧ (s.placeOrDrop x).er = s.er ∧ (s.placeOrDrop x).ce = s.ce ∧
    (s.placeOrDrop x).iu = s.iu ∧ (s.placeOrDrop x).tb = s.tb ∧ (s.placeOrDrop x).cu = s.cu ∧
    (s.placeOrDrop x).nu = s.nu ∧ (s.placeOrDrop x).pending = s.pending := by
  unfold State.placeOrDrop; split <;> simp

@[simp] theorem State.answer_frame (code : Nat) (status : Status) (ws : List Nat) :
    (s.answer code status ws).fl = s.fl ∧ (s.answer code status ws).cc = s.cc ∧
    (s.answer code status ws).ct = s.ct ∧ (s.answer code status ws).re = s.re ∧
    (s.answer code status ws).ps = s.ps ∧ (s.answer code status ws).et = s.et ∧
    (s.answer code status ws).cm = s.cm ∧ (s.answer code status ws).er = s.er ∧
    (s.answer code status ws).ce = s.ce ∧ (s.answer code status ws).iu = s.iu ∧
    (s.answer code status ws).tb = s.tb ∧ (s.answer code status ws).nu = s.nu ∧
    (s.answer code status ws).pending = s.pending := by
  simp [State.answer]

@[simp] theorem State.streamItem_frame (code : Nat) (ws : List Nat) (next : ReadStream) :
    (s.streamItem code ws next).fl = s.fl ∧ (s.streamItem code ws next).cc = s.cc ∧
    (s.streamItem code ws next).ct = s.ct ∧ (s.streamItem code ws next).re = s.re ∧
    (s.streamItem code ws next).ps = s.ps ∧ (s.streamItem code ws next).et = s.et ∧
    (s.streamItem code ws next).cm = s.cm ∧ (s.streamItem code ws next).er = s.er ∧
    (s.streamItem code ws next).ce = s.ce ∧ (s.streamItem code ws next).iu = s.iu ∧
    (s.streamItem code ws next).tb = s.tb ∧ (s.streamItem code ws next).nu = s.nu ∧
    (s.streamItem code ws next).pending = s.pending := by
  simp [State.streamItem]

@[simp] theorem State.streamEnd_frame (code : Nat) (ws : List Nat) :
    (s.streamEnd code ws).fl = s.fl ∧ (s.streamEnd code ws).cc = s.cc ∧ (s.streamEnd code ws).ct = s.ct ∧
    (s.streamEnd code ws).re = s.re ∧ (s.streamEnd code ws).ps = s.ps ∧ (s.streamEnd code ws).et = s.et ∧
    (s.streamEnd code ws).cm = s.cm ∧ (s.streamEnd code ws).er = s.er ∧ (s.streamEnd code ws).ce = s.ce ∧
    (s.streamEnd code ws).iu = s.iu ∧ (s.streamEnd code ws).tb = s.tb ∧ (s.streamEnd code ws).nu = s.nu ∧
    (s.streamEnd code ws).pending = s.pending := by
  simp [State.streamEnd]

@[simp] theorem State.nextEvent_frame (next left : Nat) (filter : EventFilter) (sent : Nat) (last : Option Nat) :
    (s.nextEvent next left filter sent last).fl = s.fl ∧ (s.nextEvent next left filter sent last).cc = s.cc ∧
    (s.nextEvent next left filter sent last).ct = s.ct ∧ (s.nextEvent next left filter sent last).re = s.re ∧
    (s.nextEvent next left filter sent last).ps = s.ps ∧ (s.nextEvent next left filter sent last).et = s.et ∧
    (s.nextEvent next left filter sent last).cm = s.cm ∧ (s.nextEvent next left filter sent last).er = s.er ∧
    (s.nextEvent next left filter sent last).ce = s.ce ∧ (s.nextEvent next left filter sent last).iu = s.iu ∧
    (s.nextEvent next left filter sent last).tb = s.tb ∧ (s.nextEvent next left filter sent last).nu = s.nu ∧
    (s.nextEvent next left filter sent last).pending = s.pending := by
  unfold State.nextEvent; (repeat' split) <;> simp

@[simp] theorem State.nextInterval_frame (next left sent : Nat) (last : Option Nat) :
    (s.nextInterval next left sent last).fl = s.fl ∧ (s.nextInterval next left sent last).cc = s.cc ∧
    (s.nextInterval next left sent last).ct = s.ct ∧ (s.nextInterval next left sent last).re = s.re ∧
    (s.nextInterval next left sent last).ps = s.ps ∧ (s.nextInterval next left sent last).et = s.et ∧
    (s.nextInterval next left sent last).cm = s.cm ∧ (s.nextInterval next left sent last).er = s.er ∧
    (s.nextInterval next left sent last).ce = s.ce ∧ (s.nextInterval next left sent last).iu = s.iu ∧
    (s.nextInterval next left sent last).tb = s.tb ∧ (s.nextInterval next left sent last).nu = s.nu ∧
    (s.nextInterval next left sent last).pending = s.pending := by
  unfold State.nextInterval; (repeat' split) <;> simp

@[simp] theorem State.nextSummary_frame (next : Nat) :
    (s.nextSummary next).fl = s.fl ∧ (s.nextSummary next).cc = s.cc ∧ (s.nextSummary next).ct = s.ct ∧
    (s.nextSummary next).re = s.re ∧ (s.nextSummary next).ps = s.ps ∧ (s.nextSummary next).et = s.et ∧
    (s.nextSummary next).cm = s.cm ∧ (s.nextSummary next).er = s.er ∧ (s.nextSummary next).ce = s.ce ∧
    (s.nextSummary next).iu = s.iu ∧ (s.nextSummary next).tb = s.tb ∧ (s.nextSummary next).nu = s.nu ∧
    (s.nextSummary next).pending = s.pending := by
  unfold State.nextSummary; simp only []; (repeat' split) <;> simp

@[simp] theorem State.streamNext_frame :
    s.streamNext.fl = s.fl ∧ s.streamNext.cc = s.cc ∧ s.streamNext.ct = s.ct ∧ s.streamNext.re = s.re ∧
    s.streamNext.ps = s.ps ∧ s.streamNext.et = s.et ∧ s.streamNext.cm = s.cm ∧ s.streamNext.er = s.er ∧
    s.streamNext.ce = s.ce ∧ s.streamNext.iu = s.iu ∧ s.streamNext.tb = s.tb ∧ s.streamNext.nu = s.nu ∧
    s.streamNext.pending = s.pending := by
  unfold State.streamNext; split <;> simp

@[simp] theorem State.beginStream_frame (r : ReadStream) :
    (s.beginStream r).fl = s.fl ∧ (s.beginStream r).cc = s.cc ∧ (s.beginStream r).ct = s.ct ∧
    (s.beginStream r).re = s.re ∧ (s.beginStream r).ps = s.ps ∧ (s.beginStream r).et = s.et ∧
    (s.beginStream r).cm = s.cm ∧ (s.beginStream r).er = s.er ∧ (s.beginStream r).ce = s.ce ∧
    (s.beginStream r).iu = s.iu ∧ (s.beginStream r).tb = s.tb ∧ (s.beginStream r).nu = s.nu ∧
    (s.beginStream r).pending = s.pending := by
  simp [State.beginStream]

@[simp] theorem State.beginExecution_frame :
    s.beginExecution.fl = s.fl ∧ s.beginExecution.cc = s.cc ∧ s.beginExecution.ct = s.ct ∧
    s.beginExecution.re = s.re ∧ s.beginExecution.ps = s.ps ∧ s.beginExecution.et = s.et ∧
    s.beginExecution.cm = s.cm ∧ s.beginExecution.er = s.er ∧ s.beginExecution.ce = s.ce ∧
    s.beginExecution.iu = s.iu ∧ s.beginExecution.tb = s.tb ∧ s.beginExecution.ra = s.ra ∧
    s.beginExecution.nu = s.nu ∧ s.beginExecution.pending = s.pending := by
  simp [State.beginExecution]

@[simp] theorem State.busy_frame (code : Nat) :
    (s.busy code).fl = s.fl ∧ (s.busy code).cc = s.cc ∧ (s.busy code).ct = s.ct ∧ (s.busy code).re = s.re ∧
    (s.busy code).ps = s.ps ∧ (s.busy code).et = s.et ∧ (s.busy code).cm = s.cm ∧ (s.busy code).er = s.er ∧
    (s.busy code).ce = s.ce ∧ (s.busy code).iu = s.iu ∧ (s.busy code).tb = s.tb ∧ (s.busy code).cu = s.cu ∧
    (s.busy code).nu = s.nu ∧ (s.busy code).pending = s.pending := by
  simp [State.busy]

@[simp] theorem State.abandon_frame :
    s.abandon.fl = s.fl ∧ s.abandon.cc = s.cc ∧ s.abandon.ct = s.ct ∧ s.abandon.re = s.re ∧ s.abandon.ps = s.ps ∧
    s.abandon.et = s.et ∧ s.abandon.cm = s.cm ∧ s.abandon.er = s.er ∧ s.abandon.ce = s.ce ∧ s.abandon.iu = s.iu ∧
    s.abandon.tb = s.tb ∧ s.abandon.nu = s.nu ∧ s.abandon.pending = s.pending := by
  simp [State.abandon]

@[simp] theorem State.setReturn_frame (p : ReturnPosition) :
    (s.setReturn p).cc = s.cc ∧ (s.setReturn p).ct = s.ct ∧ (s.setReturn p).re = s.re ∧ (s.setReturn p).ps = s.ps ∧
    (s.setReturn p).et = s.et ∧ (s.setReturn p).cm = s.cm ∧ (s.setReturn p).er = s.er ∧ (s.setReturn p).ce = s.ce ∧
    (s.setReturn p).iu = s.iu ∧ (s.setReturn p).tb = s.tb ∧ (s.setReturn p).cu = s.cu ∧ (s.setReturn p).ra = s.ra ∧
    (s.setReturn p).nu = s.nu ∧ (s.setReturn p).pending = s.pending := by
  simp [State.setReturn]

/-! ### Report messages and outbound frames (Machine/Reports.lean) -/

@[simp] theorem State.placeWaiting_frame :
    s.placeWaiting.fl = s.fl ∧ s.placeWaiting.cc = s.cc ∧ s.placeWaiting.ct = s.ct ∧ s.placeWaiting.re = s.re ∧
    s.placeWaiting.ps = s.ps ∧ s.placeWaiting.et = s.et ∧ s.placeWaiting.cm = s.cm ∧ s.placeWaiting.er = s.er ∧
    s.placeWaiting.ce = s.ce ∧ s.placeWaiting.iu = s.iu ∧ s.placeWaiting.tb = s.tb ∧ s.placeWaiting.nu = s.nu ∧
    s.placeWaiting.pending = s.pending := by
  unfold State.placeWaiting; split <;> simp

@[simp] theorem State.grantResponse_frame :
    s.grantResponse.fl = s.fl ∧ s.grantResponse.cc = s.cc ∧ s.grantResponse.ct = s.ct ∧ s.grantResponse.re = s.re ∧
    s.grantResponse.ps = s.ps ∧ s.grantResponse.et = s.et ∧ s.grantResponse.cm = s.cm ∧ s.grantResponse.er = s.er ∧
    s.grantResponse.ce = s.ce ∧ s.grantResponse.iu = s.iu ∧ s.grantResponse.tb = s.tb ∧ s.grantResponse.nu = s.nu ∧
    s.grantResponse.pending = s.pending := by
  unfold State.grantResponse; split <;> simp

@[simp] theorem State.grantNotice_frame :
    s.grantNotice.fl = s.fl ∧ s.grantNotice.cc = s.cc ∧ s.grantNotice.ct = s.ct ∧ s.grantNotice.re = s.re ∧
    s.grantNotice.ps = s.ps ∧ s.grantNotice.et = s.et ∧ s.grantNotice.cm = s.cm ∧ s.grantNotice.er = s.er ∧
    s.grantNotice.ce = s.ce ∧ s.grantNotice.iu = s.iu ∧ s.grantNotice.tb = s.tb ∧ s.grantNotice.cu = s.cu ∧
    s.grantNotice.nu = s.nu ∧ s.grantNotice.pending = s.pending := by
  simp [State.grantNotice]

@[simp] theorem State.grantEvent_frame :
    s.grantEvent.fl = s.fl ∧ s.grantEvent.cc = s.cc ∧ s.grantEvent.ct = s.ct ∧ s.grantEvent.re = s.re ∧
    s.grantEvent.ps = s.ps ∧ s.grantEvent.et = s.et ∧ s.grantEvent.cm = s.cm ∧ s.grantEvent.er = s.er ∧
    s.grantEvent.ce = s.ce ∧ s.grantEvent.iu = s.iu ∧ s.grantEvent.tb = s.tb ∧ s.grantEvent.cu = s.cu ∧
    s.grantEvent.nu = s.nu ∧ s.grantEvent.pending = s.pending := by
  unfold State.grantEvent; split <;> simp

@[simp] theorem State.grantInterval_frame :
    s.grantInterval.fl = s.fl ∧ s.grantInterval.cc = s.cc ∧ s.grantInterval.ct = s.ct ∧ s.grantInterval.re = s.re ∧
    s.grantInterval.ps = s.ps ∧ s.grantInterval.et = s.et ∧ s.grantInterval.cm = s.cm ∧ s.grantInterval.er = s.er ∧
    s.grantInterval.ce = s.ce ∧ s.grantInterval.iu = s.iu ∧ s.grantInterval.tb = s.tb ∧ s.grantInterval.cu = s.cu ∧
    s.grantInterval.nu = s.nu ∧ s.grantInterval.pending = s.pending := by
  unfold State.grantInterval; split <;> simp

@[simp] theorem State.grantCapture_frame :
    s.grantCapture.fl = s.fl ∧ s.grantCapture.cc = s.cc ∧ s.grantCapture.ct = s.ct ∧ s.grantCapture.re = s.re ∧
    s.grantCapture.ps = s.ps ∧ s.grantCapture.et = s.et ∧ s.grantCapture.cm = s.cm ∧ s.grantCapture.er = s.er ∧
    s.grantCapture.ce = s.ce ∧ s.grantCapture.iu = s.iu ∧ s.grantCapture.tb = s.tb ∧ s.grantCapture.cu = s.cu ∧
    s.grantCapture.nu = s.nu ∧ s.grantCapture.pending = s.pending := by
  unfold State.grantCapture; split <;> simp

@[simp] theorem State.grantTo_frame (x : Source) :
    (s.grantTo x).fl = s.fl ∧ (s.grantTo x).cc = s.cc ∧ (s.grantTo x).ct = s.ct ∧ (s.grantTo x).re = s.re ∧
    (s.grantTo x).ps = s.ps ∧ (s.grantTo x).et = s.et ∧ (s.grantTo x).cm = s.cm ∧ (s.grantTo x).er = s.er ∧
    (s.grantTo x).ce = s.ce ∧ (s.grantTo x).iu = s.iu ∧ (s.grantTo x).tb = s.tb ∧ (s.grantTo x).nu = s.nu ∧
    (s.grantTo x).pending = s.pending := by
  cases x <;> simp [State.grantTo]

@[simp] theorem State.grantChosen_frame :
    s.grantChosen.fl = s.fl ∧ s.grantChosen.cc = s.cc ∧ s.grantChosen.ct = s.ct ∧ s.grantChosen.re = s.re ∧
    s.grantChosen.ps = s.ps ∧ s.grantChosen.et = s.et ∧ s.grantChosen.cm = s.cm ∧ s.grantChosen.er = s.er ∧
    s.grantChosen.ce = s.ce ∧ s.grantChosen.iu = s.iu ∧ s.grantChosen.tb = s.tb ∧ s.grantChosen.nu = s.nu ∧
    s.grantChosen.pending = s.pending := by
  unfold State.grantChosen; split <;> simp

@[simp] theorem State.withdrawNotice_frame :
    s.withdrawNotice.fl = s.fl ∧ s.withdrawNotice.cc = s.cc ∧ s.withdrawNotice.ct = s.ct ∧
    s.withdrawNotice.re = s.re ∧ s.withdrawNotice.ps = s.ps ∧ s.withdrawNotice.et = s.et ∧
    s.withdrawNotice.cm = s.cm ∧ s.withdrawNotice.er = s.er ∧ s.withdrawNotice.ce = s.ce ∧
    s.withdrawNotice.iu = s.iu ∧ s.withdrawNotice.tb = s.tb ∧ s.withdrawNotice.cu = s.cu ∧
    s.withdrawNotice.ra = s.ra ∧ s.withdrawNotice.pending = s.pending := by
  unfold State.withdrawNotice; split <;> simp

@[simp] theorem State.grant_frame :
    s.grant.fl = s.fl ∧ s.grant.cc = s.cc ∧ s.grant.ct = s.ct ∧ s.grant.re = s.re ∧ s.grant.ps = s.ps ∧
    s.grant.et = s.et ∧ s.grant.cm = s.cm ∧ s.grant.er = s.er ∧ s.grant.ce = s.ce ∧ s.grant.iu = s.iu ∧
    s.grant.tb = s.tb ∧ s.grant.pending = s.pending := by
  unfold State.grant; split <;> simp

@[simp] theorem State.endStream_frame :
    s.endStream.fl = s.fl ∧ s.endStream.cc = s.cc ∧ s.endStream.ct = s.ct ∧ s.endStream.re = s.re ∧
    s.endStream.ps = s.ps ∧ s.endStream.et = s.et ∧ s.endStream.cm = s.cm ∧ s.endStream.er = s.er ∧
    s.endStream.ce = s.ce ∧ s.endStream.iu = s.iu ∧ s.endStream.tb = s.tb ∧ s.endStream.ra = s.ra ∧
    s.endStream.nu = s.nu ∧ s.endStream.pending = s.pending := by
  simp [State.endStream]

@[simp] theorem State.responseSent_frame (form : ResponseForm) :
    (s.responseSent form).fl = s.fl ∧ (s.responseSent form).cc = s.cc ∧ (s.responseSent form).ct = s.ct ∧
    (s.responseSent form).re = s.re ∧ (s.responseSent form).ps = s.ps ∧ (s.responseSent form).et = s.et ∧
    (s.responseSent form).cm = s.cm ∧ (s.responseSent form).er = s.er ∧ (s.responseSent form).ce = s.ce ∧
    (s.responseSent form).iu = s.iu ∧ (s.responseSent form).tb = s.tb ∧ (s.responseSent form).nu = s.nu ∧
    (s.responseSent form).pending = s.pending := by
  cases form <;> simp [State.responseSent]

@[simp] theorem State.pushSent_frame (p : EventPush) (named : Option Nat) :
    (s.pushSent p named).fl = s.fl ∧ (s.pushSent p named).cc = s.cc ∧ (s.pushSent p named).ct = s.ct ∧
    (s.pushSent p named).re = s.re ∧ (s.pushSent p named).ps = s.ps ∧ (s.pushSent p named).et = s.et ∧
    (s.pushSent p named).cm = s.cm ∧ (s.pushSent p named).ce = s.ce ∧ (s.pushSent p named).iu = s.iu ∧
    (s.pushSent p named).tb = s.tb ∧ (s.pushSent p named).cu = s.cu ∧ (s.pushSent p named).ra = s.ra ∧
    (s.pushSent p named).nu = s.nu ∧ (s.pushSent p named).pending = s.pending := by
  unfold State.pushSent; split <;> simp

@[simp] theorem State.noticeDone_frame :
    s.noticeDone.fl = s.fl ∧ s.noticeDone.cc = s.cc ∧ s.noticeDone.ct = s.ct ∧ s.noticeDone.re = s.re ∧
    s.noticeDone.ps = s.ps ∧ s.noticeDone.et = s.et ∧ s.noticeDone.cm = s.cm ∧ s.noticeDone.er = s.er ∧
    s.noticeDone.ce = s.ce ∧ s.noticeDone.iu = s.iu ∧ s.noticeDone.tb = s.tb ∧ s.noticeDone.cu = s.cu ∧
    s.noticeDone.ra = s.ra ∧ s.noticeDone.pending = s.pending := by
  simp [State.noticeDone]

@[simp] theorem State.blockSent_frame (ident : Nat) (final : Bool) :
    (s.blockSent ident final).fl = s.fl ∧ (s.blockSent ident final).cc = s.cc ∧
    (s.blockSent ident final).ct = s.ct ∧ (s.blockSent ident final).re = s.re ∧
    (s.blockSent ident final).ps = s.ps ∧ (s.blockSent ident final).cm = s.cm ∧
    (s.blockSent ident final).iu = s.iu ∧ (s.blockSent ident final).tb = s.tb ∧
    (s.blockSent ident final).cu = s.cu ∧ (s.blockSent ident final).ra = s.ra ∧
    (s.blockSent ident final).nu = s.nu ∧ (s.blockSent ident final).pending = s.pending := by
  unfold State.blockSent; split <;> simp

@[simp] theorem State.messageSent_frame (tag : SendTag) :
    (s.messageSent tag).fl = s.fl ∧ (s.messageSent tag).cc = s.cc ∧ (s.messageSent tag).ct = s.ct ∧
    (s.messageSent tag).re = s.re ∧ (s.messageSent tag).ps = s.ps ∧ (s.messageSent tag).cm = s.cm ∧
    (s.messageSent tag).iu = s.iu ∧ (s.messageSent tag).tb = s.tb ∧ (s.messageSent tag).pending = s.pending := by
  cases tag <;> simp [State.messageSent]

@[simp] theorem State.wordSent_frame :
    s.wordSent.fl = s.fl ∧ s.wordSent.cc = s.cc ∧ s.wordSent.ct = s.ct ∧ s.wordSent.re = s.re ∧
    s.wordSent.ps = s.ps ∧ s.wordSent.cm = s.cm ∧ s.wordSent.iu = s.iu ∧ s.wordSent.tb = s.tb ∧
    s.wordSent.pending = s.pending := by
  unfold State.wordSent; (repeat' split) <;> simp

@[simp] theorem State.putOut_frame (f : OutboundFrame) :
    (s.putOut f).cc = s.cc ∧ (s.putOut f).ct = s.ct ∧ (s.putOut f).re = s.re ∧ (s.putOut f).ps = s.ps ∧
    (s.putOut f).et = s.et ∧ (s.putOut f).cm = s.cm ∧ (s.putOut f).er = s.er ∧ (s.putOut f).ce = s.ce ∧
    (s.putOut f).iu = s.iu ∧ (s.putOut f).tb = s.tb ∧ (s.putOut f).cu = s.cu ∧ (s.putOut f).ra = s.ra ∧
    (s.putOut f).nu = s.nu ∧ (s.putOut f).pending = s.pending := by
  simp [State.putOut]

@[simp] theorem State.sendFrame_frame (data subst : Bool) (samples : Vector (BitVec 24) 8) (overload : BitVec 8) (aux : Word) :
    (s.sendFrame data subst samples overload aux).cc = s.cc ∧
    (s.sendFrame data subst samples overload aux).ct = s.ct ∧
    (s.sendFrame data subst samples overload aux).re = s.re ∧
    (s.sendFrame data subst samples overload aux).ps = s.ps ∧
    (s.sendFrame data subst samples overload aux).cm = s.cm ∧
    (s.sendFrame data subst samples overload aux).iu = s.iu ∧
    (s.sendFrame data subst samples overload aux).tb = s.tb ∧
    (s.sendFrame data subst samples overload aux).pending = s.pending := by
  simp [State.sendFrame]

@[simp] theorem State.forwardData_frame (c : FrameContent) (subst : Bool) (aux : Word) :
    (s.forwardData c subst aux).cc = s.cc ∧ (s.forwardData c subst aux).ct = s.ct ∧
    (s.forwardData c subst aux).re = s.re ∧ (s.forwardData c subst aux).ps = s.ps ∧
    (s.forwardData c subst aux).cm = s.cm ∧ (s.forwardData c subst aux).iu = s.iu ∧
    (s.forwardData c subst aux).tb = s.tb ∧ (s.forwardData c subst aux).pending = s.pending := by
  simp [State.forwardData]

@[simp] theorem State.forwardCheck_frame (f : InboundFrame) :
    (s.forwardCheck f).cc = s.cc ∧ (s.forwardCheck f).ct = s.ct ∧ (s.forwardCheck f).re = s.re ∧
    (s.forwardCheck f).ps = s.ps ∧ (s.forwardCheck f).cm = s.cm ∧ (s.forwardCheck f).iu = s.iu ∧
    (s.forwardCheck f).tb = s.tb ∧ (s.forwardCheck f).pending = s.pending := by
  simp [State.forwardCheck]

@[simp] theorem State.pacedFrame_frame :
    s.pacedFrame.cc = s.cc ∧ s.pacedFrame.ct = s.ct ∧ s.pacedFrame.re = s.re ∧ s.pacedFrame.ps = s.ps ∧
    s.pacedFrame.cm = s.cm ∧ s.pacedFrame.iu = s.iu ∧ s.pacedFrame.tb = s.tb ∧ s.pacedFrame.pending = s.pending := by
  simp [State.pacedFrame]

end Sys2Proof.Machine
end

