-- ==== Sys2Proof/Laws/Ops.lean ====
section
/-! SUPPORT. Laws/Ops.lean: for the shared operations, what each can do, said once: clamps and bounded lists, device
time, late frames, the Class Matrix, placing responses, messages reaching the Command Unit, raising causes, that every
command answers a next state, half cycles, the next item of a stream, the source that a grant goes to, and
the fields of a message. -/

namespace Sys2Proof.Machine

/-! ## Numbers and lists -/

theorem clamp_bounds {lo hi : Nat} (h : lo ≤ hi) (x : Nat) : lo ≤ clamp lo hi x ∧ clamp lo hi x ≤ hi := by
  unfold clamp; omega

theorem clampInt_bounds {lo hi : Int} (h : lo ≤ hi) (x : Int) : lo ≤ clampInt lo hi x ∧ clampInt lo hi x ≤ hi := by
  unfold clampInt; omega

/-- A clamped field lies in its range, or is the old value. -/
theorem clampedOr_bounds {lo hi : Nat} (h : lo ≤ hi) (v : Option (BitVec 24)) {old : Nat}
    (h1 : lo ≤ old) (h2 : old ≤ hi) : lo ≤ clampedOr lo hi v old ∧ clampedOr lo hi v old ≤ hi := by
  cases v with
  | none => exact ⟨h1, h2⟩
  | some x => exact clamp_bounds h x.toNat

theorem saturatingSucc_le {c x : Nat} (h : x ≤ c) : saturatingSucc c x ≤ c := by
  unfold saturatingSucc; split <;> omega

theorem le_saturatingSucc (c x : Nat) : x ≤ saturatingSucc c x := by
  unfold saturatingSucc; split <;> omega

theorem saturatingSucc_mono {c x y : Nat} (h : x ≤ y) (hy : y ≤ c) : saturatingSucc c x ≤ saturatingSucc c y := by
  unfold saturatingSucc; split <;> split <;> omega

/-- A bounded list stays within its capacity. -/
theorem appendBounded_length {α : Type} {n : Nat} (l : List α) (x : α) (hn : 1 ≤ n) (h : l.length ≤ n) :
    (appendBounded n l x).length ≤ n := by
  unfold appendBounded; split <;> simp <;> omega

/-- Its newest element is the one added. -/
@[simp] theorem appendBounded_getLast? {α : Type} (n : Nat) (l : List α) (x : α) :
    (appendBounded n l x).getLast? = some x := by
  unfold appendBounded; split <;> simp

/-! ## Device time -/

theorem DeviceTime.next_inRange {t : DeviceTime} (h : t.InRange) : t.next.InRange := by
  obtain ⟨h1, h2⟩ := h
  by_cases ha : t.tick + 1 < 12800
  · simpa [DeviceTime.next, Config.ticksPerSecond, ha, DeviceTime.InRange] using h1
  · by_cases hb : t.sec < 4294967295
    · have e : t.next = ⟨t.sec + 1, 0⟩ := by
        simp [DeviceTime.next, Config.ticksPerSecond, Config.maxSeconds, ha, hb]
      rw [e]
      exact ⟨Nat.succ_le_of_lt hb, Nat.zero_lt_succ _⟩
    · simpa [DeviceTime.next, Config.ticksPerSecond, Config.maxSeconds, ha, hb, DeviceTime.InRange] using ⟨h1, h2⟩

/-! ## The device times of late frames (R23, R172) -/

/-- A stamp changes the late times alone. -/
theorem Tracker.stamp_eq (t : Tracker) (time : DeviceTime) : ∃ l, t.stamp time = { t with lateTimes := l } := by
  unfold Tracker.stamp; split
  · exact ⟨_, rfl⟩
  · exact ⟨t.lateTimes, rfl⟩

/-- The examination of a sample does not read the late times. -/
theorem Tracker.examine_lateTimes (t : Tracker) (l : List DeviceTime) (h : Nat) (x : Int) :
    Tracker.examine { t with lateTimes := l } h x = ({ (t.examine h x).1 with lateTimes := l }, (t.examine h x).2) := by
  unfold Tracker.examine Tracker.acquirePolarity Tracker.seek
  cases hp : t.polarity <;> cases hc : t.candidate <;> cases hb : beyondBand h x <;> simp only <;>
    (repeat' split) <;> rfl

/-- Nor does the decision of a boundary. -/
theorem Tracker.frame_lateTimes (t : Tracker) (l : List DeviceTime) (h : Nat) (x : Option Int) (n : Nat) :
    Tracker.frame { t with lateTimes := l } h x n = ({ (t.frame h x n).1 with lateTimes := l }, (t.frame h x n).2) := by
  cases x with
  | none => rfl
  | some v =>
    simp only [Tracker.frame, Tracker.examine_lateTimes]
    cases he : (t.examine h v).2 <;> simp only
    · rfl
    · split <;> rfl

/-! ## The Class Matrix (R89, R90) -/

/-- The cells of a placement exist, and a second one is another than the first. -/
theorem placeEvent_cells (b : ClassBounds) (unom : PerPhase Nat) (k : SupplyKind) (dip swell : Option Extreme)
    (ticks : Nat) : (placeEvent b unom k dip swell ticks).cell < 40 ∧
      ∀ n, (placeEvent b unom k dip swell ticks).second = some n →
        n < 40 ∧ n ≠ (placeEvent b unom k dip swell ticks).cell := by
  have hd : ∀ p ms, dipCell b p ms < 25 := by
    intro p ms; unfold dipCell dipRow durationColumn; (repeat' split) <;> omega
  have hs : ∀ p ms, 25 ≤ swellCell b p ms ∧ swellCell b p ms < 40 := by
    intro p ms; unfold swellCell swellRow durationColumn; (repeat' split) <;> omega
  have h1 := hd (extremePermille unom dip) (millis ticks)
  have h2 := hs (extremePermille unom swell) (millis ticks)
  cases k <;> simp [placeEvent] <;> omega

/-- One cell counted. -/
theorem ClassMatrix.countCell_cells (m : ClassMatrix) {n : Nat} (h : n < 40) (stored : Bool) (i : Fin 40) :
    (m.countCell n stored).cells[i] = if i.val = n then m.cells[i].add stored else m.cells[i] := by
  unfold ClassMatrix.countCell
  simp only [h, dite_true, Fin.getElem_fin, Vector.getElem_set]
  by_cases e : n = i.val
  · subst e; simp
  · simp [e, Ne.symm e]

/-! ## Causes -/

/-- What a raise does to the requests. -/
@[simp] theorem NoticeUnit.raise_requests (nu : NoticeUnit) (c : Cause) :
    (nu.raise c).requests = nu.requests ||| c.set := rfl

@[simp] theorem NoticeUnit.raise_enables (nu : NoticeUnit) (c : Cause) : (nu.raise c).enables = nu.enables := rfl

theorem State.requested_raise (s : State) (c : Cause) : (s.raise c).requested c := by
  cases c <;> simp [State.requested, Cause.set, Cause.bit]

theorem State.requested_of_raise (s : State) (c d : Cause) (h : s.requested d) : (s.raise c).requested d := by
  simp only [State.requested, State.raise_nu, NoticeUnit.raise_requests, BitVec.getLsbD_or] at *
  simp [h]

/-! ## Placing responses (R183) -/

/-- A response is placed at the end of the source, or the Command Unit holds it. -/
theorem State.placeOrWait_cases (s : State) (x : Response) :
    (s.ra.responses.length < 8 ∧
      s.placeOrWait x = (s.withRa { s.ra with responses := s.ra.responses ++ [x] }).withCu s.cu.placed) ∨
    (8 ≤ s.ra.responses.length ∧ s.placeOrWait x = s.withCu (s.cu.held x)) := by
  unfold State.placeOrWait ReportArbiter.hasPlace
  by_cases h : s.ra.responses.length < 8
  · exact .inl ⟨h, by simp [Config.responseCapacity, h, ReportArbiter.place]⟩
  · exact .inr ⟨by omega, by simp [Config.responseCapacity, h]⟩

theorem State.placeOrDrop_cases (s : State) (x : Response) :
    (s.ra.responses.length < 8 ∧
      s.placeOrDrop x = s.withRa { s.ra with responses := s.ra.responses ++ [x] }) ∨
    (8 ≤ s.ra.responses.length ∧ s.placeOrDrop x = s) := by
  unfold State.placeOrDrop ReportArbiter.hasPlace
  by_cases h : s.ra.responses.length < 8
  · exact .inl ⟨h, by simp [Config.responseCapacity, h, ReportArbiter.place]⟩
  · exact .inr ⟨by omega, by simp [Config.responseCapacity, h]⟩

/-- An answer with a place and no stream in progress. -/
theorem State.answer_placed (s : State) (code : Nat) (st : Status) (ws : List Nat) (h1 : s.ra.responses.length < 8)
    (h2 : s.cu.stream = none) :
    s.answer code st ws = (s.withRa { s.ra with responses := s.ra.responses ++ [answerOf code st ws] }).withCu
      { s.cu with state := .idle, work := .idle, waiting := none } := by
  rcases s.placeOrWait_cases (answerOf code st ws) with ⟨-, h⟩ | ⟨h, -⟩
  · simp [State.answer, h, CommandUnit.placed, h2]
  · omega

/-! ## Messages (R182) -/

/-- What a message does, by the power state and the Command Unit's state. -/
theorem State.receive_cases (s : State) (code : Nat) (run : State → State) :
    (s.tb.power = .standby ∧ s.receive code run = s.wake .returnActivity) ∨
    (s.tb.power = .run ∧ s.cu.state = .idle ∧ s.receive code run = run s.beginExecution) ∨
    (s.tb.power = .run ∧ s.cu.state = .assembling ∧ s.receive code run = run s.abandon.beginExecution) ∨
    (s.tb.power = .run ∧ (s.cu.state = .executing ∨ s.cu.state = .streaming) ∧
      s.receive code run = s.busy code) := by
  unfold State.receive
  rcases hp : s.tb.power <;> rcases hc : s.cu.state <;> simp

/-- A free Command Unit executes the message. -/
theorem State.receive_free (s : State) (h : s.Free) (code : Nat) (run : State → State) :
    s.begin.receive code run = run s.begin.beginExecution := by
  obtain ⟨h1, h2, -, -⟩ := h
  simp [State.receive, h1, h2]

/-- A free Command Unit answers and is IDLE again. -/
theorem State.answer_free (s : State) (h : s.Free) (code : Nat) (st : Status) (ws : List Nat) :
    s.begin.beginExecution.answer code st ws = s.begin.answered code st ws := by
  obtain ⟨-, -, h3, h4⟩ := h
  rw [State.answer_placed _ _ _ _ (by simpa using h4) (by simpa [State.beginExecution] using h3)]
  rfl

/-! ## Every command answers a next state -/

/-- A row that an arrival brings about: the arrival's step where it came about, else nothing but the outputs. -/
theorem State.happening_cases (s : State) (o : Occurrence) (t : State) :
    (o ∈ t.out.occurred ∧ s.happening o t = .next t) ∨ (o ∉ t.out.occurred ∧ s.happening o t = .next s.begin) := by
  unfold State.happening
  by_cases h : o ∈ t.out.occurred <;> simp [h]

/-- No command faults or is refused. -/
theorem exec_next (c : Instr) (s : State) : ∃ t, exec c s = .next t := by
  cases c
  all_goals first
    | exact ⟨_, rfl⟩
    | (rcases State.happening_cases s _ _ with ⟨-, h⟩ | ⟨-, h⟩ <;> exact ⟨_, h⟩)

/-- No step faults or is refused. -/
theorem step_next (s : State) : ∃ t, step s = .next t := by
  unfold step
  cases s.pending with
  | nil => exact ⟨_, rfl⟩
  | cons c rest => exact exec_next c _

/-! ## Running durations (R67) -/

/-- An advance adds one tick to an open event's running duration, below its ceiling (R67). -/
@[simp] theorem EventContext.tick_running (x : EventContext) : x.tick.running = durationAfter x.running := rfl

/-- Below the ceiling or past it, an advance is counted once (R67). -/
theorem EventContext.tick_counted (x : EventContext) : x.tick.running + x.tick.overrun = x.running + x.overrun + 1 := by
  simp only [EventContext.tick, saturatingSucc]; split <;> omega

/-- The running duration of a boundary frame, after the advance of its deciding frame. -/
theorem EventContext.tick_runningAt (x : EventContext) (lag : Nat) : x.tick.runningAt lag = x.durationAt lag := by
  simp only [EventContext.runningAt, EventContext.durationAt, x.tick_counted, Config.maxDuration]

/-! ## Half cycles (R34, R35) -/

/-- The late entry of a frame record. -/
theorem Conditioner.record_lateEntry (c : Conditioner) (f : FrameContent) (b : Bool) :
    (c.record f b).lateEntry = c.entryOf f b := by
  have h : ∀ ch, squareOf (c.scale f ch) = (c.entryOf f b).squares.get ch ∧
      clippedOf (c.scale f ch) = (c.entryOf f b).clipped.get ch := by
    intro ch
    cases ch <;> simp only [Conditioner.scale, Conditioner.entryOf, PerChannel.of, PerChannel.get] <;> split <;>
      simp_all [squareOf, clippedOf, scaleSlot, Nat.pow_two]
  simp only [FrameRecord.lateEntry, Conditioner.record, PerChannel.map, PerChannel.of, h]
  rfl

@[simp] theorem addSums_get (a b : PerChannel Nat) (c : Channel) : (addSums a b).get c = a.get c + b.get c := by
  cases c <;> rfl

@[simp] theorem orMarks_get (a b : PerChannel Bool) (c : Channel) : (orMarks a b).get c = (a.get c || b.get c) := by
  cases c <;> rfl

theorem foldl_addSums (es : List LateEntry) (a : PerChannel Nat) (c : Channel) :
    (es.foldl (fun a e => addSums a e.squares) a).get c = a.get c + sumOf es c := by
  induction es generalizing a with
  | nil => simp [sumOf]
  | cons e es ih => simp [ih, sumOf]; omega

theorem foldl_orMarks (es : List LateEntry) (a : PerChannel Bool) (c : Channel) :
    (es.foldl (fun a e => orMarks a e.clipped) a).get c = (a.get c || clippedIn es c) := by
  induction es generalizing a with
  | nil => simp [clippedIn]
  | cons e es ih => simp [ih, clippedIn, Bool.or_assoc]

/-- A half cycle closes with the entries before its boundary frame. -/
theorem RmsEngine.closedHalf_closes (r : RmsEngine) (k : Nat) (held : Bool) :
    r.Closes (r.late.take (k - 98)) k (r.closedHalf k held) :=
  ⟨rfl, rfl, fun c => ⟨foldl_addSums _ _ c, foldl_orMarks _ _ c⟩⟩

theorem RmsEngine.foldl_addEarly (es : List LateEntry) (r : RmsEngine) :
    (es.foldl RmsEngine.addEarly r).late = r.late ∧
    (es.foldl RmsEngine.addEarly r).earlyCount = r.earlyCount + es.length ∧
    (es.foldl RmsEngine.addEarly r).earlyPatched = (r.earlyPatched || patchedIn es) ∧
    ∀ c : Channel, (es.foldl RmsEngine.addEarly r).earlySums.get c = r.earlySums.get c + sumOf es c ∧
      (es.foldl RmsEngine.addEarly r).earlyClipped.get c = (r.earlyClipped.get c || clippedIn es c) := by
  induction es generalizing r with
  | nil => simp [sumOf, clippedIn, patchedIn]
  | cons e es ih =>
    obtain ⟨h1, h2, h3, h4⟩ := ih (r.addEarly e)
    simp only [List.foldl_cons, h1, h2, h3, h4]
    simp [RmsEngine.addEarly, sumOf, clippedIn, patchedIn, Bool.or_assoc]
    exact ⟨by omega, fun c => by omega⟩

/-- The new half cycle opens with the entries from the boundary frame on. -/
theorem RmsEngine.openHalf_opens (r : RmsEngine) (k : Nat) : (r.openHalf k).Opens (r.late.drop (k - 98)) := by
  obtain ⟨h1, h2, h3, h4⟩ := RmsEngine.foldl_addEarly (r.late.drop (k - 98))
    { r with earlySums := noSums, earlyClipped := noMarks, earlyCount := 0, earlyPatched := false, late := [] }
  refine ⟨h1, h2.trans (Nat.zero_add _), h3.trans (Bool.false_or _), fun c => ?_⟩
  have hs : noSums.get c = 0 := by cases c <;> rfl
  have hm : noMarks.get c = false := by cases c <;> rfl
  exact ⟨(h4 c).1.trans (by simp [hs]), (h4 c).2.trans (by simp [hm])⟩

/-- A segment RMS taken into a channel's accumulators. -/
theorem ChannelTotals.add_takes (a : ChannelTotals) (r : Nat) : a.Takes (a.add (some r)) r := by
  simp [ChannelTotals.Takes, ChannelTotals.add, Nat.pow_two]

/-- A frame record taken at its position (R34). -/
theorem RmsEngine.take_accumulates (r : RmsEngine) (position : Nat) (x : FrameRecord) :
    r.Accumulates (r.take position x) position x.lateEntry := by
  by_cases h : position < 98
  · simp [RmsEngine.Accumulates, RmsEngine.take, Config.acceptFrom, RmsEngine.addEarly, h]
  · simp [RmsEngine.Accumulates, RmsEngine.take, Config.acceptFrom, h]

/-- The samples of a frame record (R9, R108). -/
theorem Conditioner.record_samples (c : Conditioner) (f : FrameContent) (b : Bool) :
    (c.record f b).samples = c.samplesOf f := by
  have h : ∀ x : Channel, (c.scale f x).map (·.value) =
      (c.slotOf x.role).map (fun i => scaleSample c.table[i].gain c.table[i].offset f.samples[i]) := by
    intro x; simp only [Conditioner.scale, Option.map_map]; rfl
  have e : (c.record f b).samples = channels.filterMap (fun x => (c.scale f x).map (·.value)) := by
    simp [FrameRecord.samples, Conditioner.record, PerChannel.toList, PerChannel.of, channels, List.filterMap_cons]
  rw [e, Conditioner.samplesOf]
  exact congrArg (fun g => channels.filterMap g) (funext h)

/-! ## Interval closes (R138, R139, R143) -/

/-- The category of a close (R142). -/
theorem Interval.category_eq (s : State) (v : Interval) (p : Phase) : v.category s.ps p = s.categoryOf v p := by
  simp only [Interval.category, State.categoryOf, ChannelTotals.rms, Interval.unjudged]
  split <;> split <;> simp_all [or_assoc]

/-- A quotient rounded half up. -/
theorem roundHalfUp_bounds {d : Nat} (h : d ≠ 0) (n : Nat) :
    2 * d * roundHalfUp n d ≤ 2 * n + d ∧ 2 * n + d < 2 * d * (roundHalfUp n d + 1) :=
  ⟨Nat.mul_div_le _ _, Nat.lt_mul_div_succ _ (by omega)⟩

/-- The record that a close makes (R138). -/
theorem Interval.record_recordsOf (s : State) (v : Interval) : s.RecordsOf v v.span (v.record s.ps) := by
  refine ⟨rfl, rfl, rfl, rfl, fun c => ?_, fun p => ?_, rfl, fun h => ?_, fun h => ?_, rfl, rfl, rfl, rfl, rfl⟩
  · cases c <;> simp only [Interval.record, PerChannel.map, PerChannel.get, ChannelTotals.rms,
      ChannelTotals.extremes] <;> exact ⟨trivial, fun h => by simp [h], fun h => by simp [h]⟩
  · cases p <;> exact v.category_eq s _
  · simp [Interval.record, h]
  · exact ⟨_, by simp only [Interval.record, h, if_false], roundHalfUp_bounds h _⟩

/-- One close more in its category (R143). -/
theorem CategoryCounts.add_countsAll (c : CategoryCounts) (k : Category) : c.CountsAll (c.add k) [k] := by
  cases k <;> simp [CategoryCounts.CountsAll, CategoryCounts.add]

/-- Counts of closes one after another (R143). -/
theorem CategoryCounts.CountsAll.append {c d e : CategoryCounts} {ks ls : List Category} (h : c.CountsAll d ks)
    (g : d.CountsAll e ls) : c.CountsAll e (ks ++ ls) := by
  simp only [CategoryCounts.CountsAll, List.count_append] at *
  omega

/-! ## Streams (R104, R147, R148) -/

/-- With a place in the response source a message is placed at its end. -/
theorem State.placeOrWait_placed (s : State) (x : Response) (h : s.ra.responses.length < 8) :
    (s.placeOrWait x).ra.responses = s.ra.responses ++ [x] ∧ (s.placeOrWait x).cu.stream = s.cu.stream := by
  rcases s.placeOrWait_cases x with ⟨-, e⟩ | ⟨e, -⟩
  · simp [e, CommandUnit.placed]
  · omega

/-- A stream item placed. -/
theorem State.streamItem_placed (s : State) (code : Nat) (ws : List Nat) (y : ReadStream)
    (h : s.ra.responses.length < 8) :
    (s.streamItem code ws y).ra.responses = s.ra.responses ++ [streamMessage .streamItem code ws] ∧
    (s.streamItem code ws y).cu.stream = some y :=
  State.placeOrWait_placed (s.withCu { s.cu with stream := some y }) _ h

/-- An end message placed. -/
theorem State.streamEnd_placed (s : State) (code : Nat) (ws : List Nat) (h : s.ra.responses.length < 8) :
    (s.streamEnd code ws).ra.responses = s.ra.responses ++ [streamMessage .endMessage code ws] ∧
    (s.streamEnd code ws).cu.stream = s.cu.stream :=
  State.placeOrWait_placed s _ h

/-- The first element of a list that meets a condition, where the ones before it do not. -/
theorem find?_split {α : Type} {p : α → Bool} {l before after : List α} {r : α} (h : l = before ++ r :: after)
    (h1 : ∀ q ∈ before, p q = false) (h2 : p r = true) : l.find? p = some r := by
  subst h
  rw [List.find?_append, List.find?_eq_none.mpr (by simpa using h1)]
  simp [h2]

/-- The next choice of READ SUMMARIES. -/
theorem State.nextSummary_next (s : State) (next : Nat) (h : s.cu.stream = some (.summaries next))
    (hp : s.ra.responses.length < 8) :
    ∃ x, (s.nextSummary next).ra.responses = s.ra.responses ++ [x] ∧
      s.SummariesNext next x (s.nextSummary next).cu.stream := by
  have e : max next s.iu.summariesGone - s.iu.summariesGone = next - s.iu.summariesGone := by omega
  unfold State.nextSummary
  simp only [e]
  cases hm : s.iu.summaries[next - s.iu.summariesGone]? with
  | none =>
    obtain ⟨h1, h2⟩ := s.streamEnd_placed 23 s.iu.endWords hp
    refine ⟨_, h1, fun m h => by simp [hm] at h, fun _ => ⟨?_, h2.trans h⟩⟩
    unfold IntervalUnit.endWords
    cases s.iu.firstIndex <;> rfl
  | some m =>
    obtain ⟨h1, h2⟩ := s.streamItem_placed 23 m.words (.summaries (max next s.iu.summariesGone + 1)) hp
    refine ⟨_, h1, fun m' h' => ?_, fun hl => ?_⟩
    · rw [hm] at h'
      cases h'
      exact ⟨rfl, h2⟩
    · simp [List.getElem?_eq_none hl] at hm

/-- The next choice of READ INTERVALS. -/
theorem State.nextInterval_next (s : State) (next left sent : Nat) (last : Option Nat)
    (h : s.cu.stream = some (.intervals next left sent last)) (hp : s.ra.responses.length < 8) :
    ∃ x, (s.nextInterval next left sent last).ra.responses = s.ra.responses ++ [x] ∧
      s.IntervalsNext next left sent last x (s.nextInterval next left sent last).cu.stream := by
  have hw : streamMessage .endMessage 21 (intervalsEndWords sent last (s.iu.log.head?.map (·.index))) =
      intervalsEnd sent last (s.iu.log.head?.map (·.index)) := by
    cases last <;> cases s.iu.log.head?.map (·.index) <;> rfl
  obtain ⟨h1, h2⟩ := s.streamEnd_placed 21 (intervalsEndWords sent last (s.iu.log.head?.map (·.index))) hp
  unfold State.nextInterval
  cases left with
  | zero => exact ⟨_, h1, fun _ => ⟨hw, h2.trans h⟩, fun _ _ _ _ hl => absurd hl (by omega)⟩
  | succ n =>
    cases hf : s.iu.log.find? (fun r => decide (next ≤ r.index)) with
    | none =>
      refine ⟨_, h1, fun _ => ⟨hw, h2.trans h⟩, fun b r a e _ hb hr => ?_⟩
      rw [find?_split e (fun q hq => by simpa using hb q hq) (by simpa using hr)] at hf
      cases hf
    | some r =>
      obtain ⟨h3, h4⟩ := s.streamItem_placed 21 r.words (.intervals (r.index + 1) n (sent + 1) (some r.index)) hp
      refine ⟨_, h3, fun hl => ?_, fun b q a e _ hb hr => ?_⟩
      · rcases hl with hl | hl
        · omega
        · have := List.find?_some hf
          have := hl r (List.mem_of_find?_eq_some hf)
          simp_all
          omega
      · rw [find?_split e (fun q hq => by simpa using hb q hq) (by simpa using hr)] at hf
        cases hf
        exact ⟨rfl, h4⟩

/-- The next choice of READ EVENTS. -/
theorem State.nextEvent_next (s : State) (next left : Nat) (filter : EventFilter) (sent : Nat) (last : Option Nat)
    (h : s.cu.stream = some (.events next left filter sent last)) (hp : s.ra.responses.length < 8) :
    ∃ x, (s.nextEvent next left filter sent last).ra.responses = s.ra.responses ++ [x] ∧
      s.EventsNext next left filter sent last x (s.nextEvent next left filter sent last).cu.stream := by
  unfold State.nextEvent
  cases left with
  | zero =>
    obtain ⟨h1, h2⟩ := s.streamEnd_placed 13 (eventsEndWords sent last) hp
    refine ⟨_, h1, fun _ => ⟨?_, h2.trans h⟩, fun hl => absurd hl (by omega)⟩
    cases last <;> rfl
  | succ n =>
    simp only [EventRegister.choose]
    cases hf : s.er.records.find? (fun x => decide (next ≤ x.ident) && (match filter with
      | .all => true
      | .unreported => !hasFlag x.flags .reported)) with
    | none =>
      obtain ⟨h1, h2⟩ := s.streamEnd_placed 13 (eventsEndWords sent none) hp
      refine ⟨_, h1, fun hl => absurd hl (by omega), fun _ => ⟨fun _ => ⟨rfl, h2.trans h⟩, fun b r a e hb h3 h4 => ?_⟩⟩
      have := List.find?_eq_none.mp hf r (by simp [e])
      cases filter <;> simp_all
    | some r =>
      obtain ⟨h1, h2⟩ := s.streamItem_placed 13 r.words (.events (r.ident + 1) n filter (sent + 1) (some r.ident)) hp
      refine ⟨_, h1, fun hl => absurd hl (by omega), fun _ => ⟨fun hn => ?_, fun b q a e hb h3 h4 => ?_⟩⟩
      · have h5 := List.find?_some hf
        have h6 := hn r (List.mem_of_find?_eq_some hf)
        cases filter <;> simp_all <;> omega
      · have hq : some r = some q := by
          refine hf.symm.trans (find?_split e (fun q' hq' => ?_) (by cases filter <;> simp_all))
          rcases hb q' hq' with hl | ⟨hl, hr⟩
          · simp [Nat.not_le.mpr hl]
          · subst hl
            simp [hr]
        cases hq
        exact ⟨rfl, h2⟩

/-- With a place in the response source, a choice of a stream places the message that the stream's rule gives. -/
theorem State.streamNext_next (s : State) (r : ReadStream) (h : s.cu.stream = some r)
    (hp : s.ra.responses.length < 8) :
    ∃ x, s.streamNext.ra.responses = s.ra.responses ++ [x] ∧ s.StreamNext r x s.streamNext.cu.stream := by
  unfold State.streamNext
  rw [h]
  cases r with
  | events next left filter sent last => exact s.nextEvent_next next left filter sent last h hp
  | intervals next left sent last => exact s.nextInterval_next next left sent last h hp
  | summaries next => exact s.nextSummary_next next h hp

/-! ## Grants (R187) -/

/-- A source is pending just when it holds something to send, once a notice with no cause due is withdrawn. -/
theorem State.sourcePending_iff (s : State) (h : s.nu.queued = true → s.nu.attention = true) (x : Source) :
    s.sourcePending x = true ↔ s.Waits x := by
  cases x <;> simp [State.sourcePending, State.Waits, NoticeUnit.attention, NoticeUnit.due] at *
  exact h

/-- The better source over a list in the fixed order: of those the list and the one found so far hold, the one with the
highest level, the earliest among equals. -/
theorem foldl_betterSource (v : SourceLevels) (xs : List Source) (b : Source)
    (h : xs.Pairwise (fun x y => x.place < y.place)) (hb : ∀ x ∈ xs, b.place < x.place) :
    ∃ x, xs.foldl (betterSource v) (some b) = some x ∧ x ∈ b :: xs ∧ ∀ y ∈ b :: xs,
      v.get y < v.get x ∨ (v.get y = v.get x ∧ x.place ≤ y.place) := by
  induction xs generalizing b with
  | nil => exact ⟨b, rfl, by simp, by simp⟩
  | cons a xs ih =>
    obtain ⟨ha, hx⟩ := List.pairwise_cons.mp h
    have hab := hb a (by simp)
    by_cases hl : v.get b < v.get a
    · obtain ⟨x, h1, h2, h3⟩ := ih a hx ha
      have h4 := h3 a (by simp)
      refine ⟨x, by simpa [betterSource, hl] using h1, List.mem_cons_of_mem _ h2, fun y hy => ?_⟩
      rcases List.mem_cons.mp hy with rfl | hy
      · omega
      · exact h3 y hy
    · obtain ⟨x, h1, h2, h3⟩ := ih b hx (fun y hy => hb y (by simp [hy]))
      have h4 := h3 b (by simp)
      refine ⟨x, by simpa [betterSource, hl] using h1, by
        rcases List.mem_cons.mp h2 with rfl | h2
        · exact List.mem_cons_self
        · exact List.mem_cons_of_mem _ (List.mem_cons_of_mem _ h2), fun y hy => ?_⟩
      simp only [List.mem_cons] at hy
      rcases hy with rfl | rfl | hy
      · exact h4
      · omega
      · exact h3 y (by simp [hy])

/-- The source chosen is the one that the grant goes to (R187); with none pending none is chosen. -/
theorem State.chooseSource_cases (s : State) (h : s.nu.queued = true → s.nu.attention = true) :
    (s.chooseSource = none ∧ ∀ y, ¬s.Waits y) ∨ ∃ x, s.chooseSource = some x ∧ s.Granted x := by
  have hm : ∀ y, y ∈ sources.filter s.sourcePending ↔ s.Waits y := fun y => by
    rw [List.mem_filter, s.sourcePending_iff h]
    cases y <;> simp [sources]
  have hs : (sources.filter s.sourcePending).Pairwise (fun x y => x.place < y.place) :=
    List.Pairwise.filter _ (by decide)
  unfold State.chooseSource
  cases hl : sources.filter s.sourcePending with
  | nil => exact .inl ⟨rfl, fun y hy => by simpa [hl] using (hm y).mpr hy⟩
  | cons b xs =>
    rw [hl] at hs hm
    obtain ⟨hb, hx⟩ := List.pairwise_cons.mp hs
    obtain ⟨x, h1, h2, h3⟩ := foldl_betterSource s.ra.levels xs b hx hb
    exact .inr ⟨x, h1, (hm x).mp h2, fun y hy => h3 y ((hm y).mpr hy)⟩

/-- The grant goes to one source at most. -/
theorem State.Granted.unique {s : State} {x y : Source} (hx : s.Granted x) (hy : s.Granted y) : x = y := by
  have h1 := hx.2 y hy.1
  have h2 := hy.2 x hx.1
  have : x.place = y.place := by omega
  cases x <;> cases y <;> simp_all [Source.place]

/-- The source chosen is the one that the grant goes to. -/
theorem State.Granted.of_chooseSource {s : State} {x : Source} (h : s.nu.queued = true → s.nu.attention = true)
    (e : s.chooseSource = some x) : s.Granted x := by
  rcases s.chooseSource_cases h with ⟨h1, -⟩ | ⟨y, h1, h2⟩
  · simp [h1] at e
  · cases e.symm.trans h1
    exact h2

/-! ## Fields of a message (R179) -/

/-- The value of a field is that of its later occurrence. -/
theorem lastField_eq_wideOf (fs : FieldList) (n : Nat) : lastField fs n = wideOf fs n := by
  have h : ∀ acc, fs.foldl (fun acc x => if x.1 = n then some x.2 else acc) acc =
      ((fs.reverse.find? (fun x => x.1 == n)).map (·.2)).or acc := by
    induction fs with
    | nil => intro acc; rfl
    | cons x fs ih =>
      intro acc
      rw [List.foldl_cons, ih, List.reverse_cons, List.find?_append]
      cases List.find? (fun x => x.1 == n) fs.reverse with
      | some y => rfl
      | none => by_cases e : x.1 = n <;> simp [e]
  exact (h none).trans (by simp [wideOf])

theorem narrowField_eq_narrowOf (fs : FieldList) (n : Nat) : narrowField fs n = narrowOf fs n := by
  simp [narrowField, narrowOf, lastField_eq_wideOf]

/-- The code of a field word. -/
theorem fieldWord_code (n : Nat) (v : BitVec 24) (h : n < 128) : fieldCode (fieldWord n v) = n := by
  show ((0#1 ++ BitVec.ofNat 7 n ++ v : BitVec (1 + 7 + 24)).extractLsb' 24 7).toNat = n
  have e : (0#1 ++ BitVec.ofNat 7 n ++ v : BitVec (1 + 7 + 24)).extractLsb' 24 7 = BitVec.ofNat 7 n := by
    apply BitVec.eq_of_getLsbD_eq
    intro i hi
    rw [BitVec.getLsbD_extractLsb', BitVec.getLsbD_append]
    have h2 : ¬24 + i < 24 := by omega
    rw [BitVec.getLsbD_append]
    simp [hi, h2]
  rw [e, BitVec.toNat_ofNat, Nat.mod_eq_of_lt h]

/-- The value of a field word. -/
theorem fieldWord_value (n : Nat) (v : BitVec 24) : fieldValue (fieldWord n v) = v.setWidth 32 := by
  show ((0#1 ++ BitVec.ofNat 7 n ++ v : BitVec (1 + 7 + 24)).extractLsb' 0 24).setWidth 32 = _
  have e : (0#1 ++ BitVec.ofNat 7 n ++ v : BitVec (1 + 7 + 24)).extractLsb' 0 24 = v := by
    apply BitVec.eq_of_getLsbD_eq
    intro i hi
    rw [BitVec.getLsbD_extractLsb', BitVec.getLsbD_append]
    simp [hi]
  rw [e]

/-! ## Withdrawn notices (R191) -/

/-- A notice is withdrawn at a grant just when it is queued with no cause due and no other source comes before it. -/
theorem State.withdrawNotice_queued (s : State) :
    s.withdrawNotice.nu = s.nu ∨ (s.nu.attention = false ∧ s.withdrawNotice.nu = { s.nu with queued := false }) := by
  unfold State.withdrawNotice
  split
  · next h => exact .inr ⟨h.2, rfl⟩
  · exact .inl rfl

end Sys2Proof.Machine
end

