-- ==== Sys2Proof/Tests/Slice0.lean ====
section
/-! SUPPORT. Tests/Slice0.lean: the checks of WellFormed refuse ill-formed terms; worked examples of the manual; one or two
small tests per command, expected results from the manual's rules; and, for every statement with hypotheses, a concrete
state and operands that meet them (the `witness_` theorems, one per clause where a statement has several). -/

namespace Sys2Proof.Tests

-- One test after another: together they would hold a thread each.
set_option Elab.async false

open Sys2Proof.Machine

/-! ## Helpers -/

/-- The state after a command. -/
def after (c : Instr) (s : State) : State :=
  match exec c s with
  | .next t => t
  | .fault _ => s
  | .refused _ => s

/-- A frame with zero samples. -/
def frame (seq : BitVec 4) : InboundFrame :=
  { seq := seq, overload := 0, samples := Vector.replicate 8 0, aux := 0 }

/-- The part with its inbound lane in a state, its last good sequence number 5. -/
def onLane (l : LaneState) : State :=
  (State.reset.withFl { State.reset.fl with
    lane := l, lastSeq := some 5, lastFrame := some ⟨Vector.replicate 8 0, 0⟩ }).withTb
      { State.reset.tb with source := if l = .aligned then .frame else .localOsc }

/-- Measurement in a state. -/
def measure (m : MeasurementState) (s : State) : State := s.withCc { s.cc with measurement := m }

/-- The part in standby. -/
def asleep (s : State) : State :=
  (s.withTb { s.tb with power := .standby }).withFl { s.fl with lane := .lost }

/-- Slot 1 holds L1. -/
def withL1 (s : State) : State :=
  s.withCc { s.cc with table := s.cc.table.set 0 { ChannelEntry.powerOn with role := .l1 } }

/-- The Command Unit in a state. -/
def unitIn (c : CommandState) (s : State) : State := s.withCu { s.cu with state := c }

/-- A message in transmission with one word left. -/
def lastWord (t : SendTag) (s : State) : State := s.withRa { s.ra with sending := some ⟨[7#32], t⟩ }

/-- A closed event record. -/
def record (n : Nat) : EventRecord :=
  { ident := n, kind := .supply, closed := true, start := ⟨5, 0⟩, duration := none, supplyKind := none,
    interruption := none, involved := none, dip := none, swell := none, classCell := none, swellCell := none,
    capture := some 9, flags := 0, times := none }

/-- An open event. -/
def event (k : OpenKind) : EventContext :=
  { ident := 1, kind := k, stored := false, start := ⟨0, 0⟩, running := 3, overrun := 0, involved := ⟨false, false, false⟩,
    dip := none, swell := none, dipSeen := false, swellSeen := false, stretch := none, interruption := 0,
    interruptionSeen := false, flags := 0, capture := none }

/-- An event is open. -/
def opened (k : OpenKind) (s : State) : State := s.withEt { s.et with context := some (event k) }

/-- A capture that holds block 0. -/
def capture (st : CaptureState) (d : CaptureDecision) : Capture :=
  { ident := 1, origin := .manual, joined := [], state := st, decision := d, start := ⟨0, 0⟩,
    channels := ⟨true, false, false, false⟩, preHeld := 0, blocks := [0], truncated := false, joinedFlag := false,
    discardDue := false }

/-- The directory holds one capture. -/
def holding (c : Capture) (s : State) : State :=
  s.withCe { s.ce with directory := [c], free := (List.range 128).drop 1 }

/-- A fill state at the end of a FULL span. -/
def filling (post : Option PostCount) (manual : Option Nat) : FillState :=
  { kind := .full, boundariesLeft := 1, offset := 0, fresh := true, full := 4, thin := 16, factor := 16, post := post,
    manualLeft := manual }

/-- Measuring, with the tracker at the position where a boundary is forced and its segment at its last half cycle. -/
def forcing : State :=
  let s := measure .running (onLane .aligned)
  s.withCt { s.ct with position := 143, segmentCount := some 19, state := .locked }

/-- L1 is watched at a boundary that delivers refreshed values: the half cycles before it hold this sum of squares. -/
def delivering (sum : Nat) (s : State) : State :=
  (withL1 s).withRe { s.re with
    earlySums := ⟨sum, 0, 0, 0⟩, earlyCount := 98
    late := List.replicate 45 ⟨⟨0, 0, 0, 0⟩, ⟨false, false, false, false⟩, false⟩
    previous := some ⟨⟨sum, 0, 0, 0⟩, ⟨false, false, false, false⟩, 128, false, false⟩ }

/-- A forced boundary at the nominal half period's place. -/
def forced : Decision := ⟨.synthetic, 128, 143⟩

/-- Measuring with L1, the tracker early in its half cycle, a capture that holds block 0 filling. -/
def storing (x : FillState) : State :=
  let s := holding (capture .filling .keep) (measure .running (withL1 (onLane .aligned)))
  s.withCe { s.ce with fill := some x }

/-- L1 at +32,000 cV and then below its band for two samples, the third one due at position 123; its latest refreshed RMS
is given. -/
def crossing (state : TrackerState) (run rms : Nat) : State :=
  let s := measure .running (withL1 (onLane .aligned))
  (s.withCt { s.ct with
      state := state, acceptedRun := run, reference := some .l1, polarity := some .positive
      candidate := .crossing 120 2, position := 123 }).withRe
    { s.re with refreshed := ⟨some ⟨rms, false, false, false⟩, none, none⟩ }

/-- The next frame, with −32,000 in slot 1. -/
def below : InboundFrame :=
  { frame 6 with samples := (Vector.replicate 8 0).set 0 (BitVec.ofInt 24 (-32000)) }

/-- A message under assembly, its header and these payload words in the buffer. -/
def assembling (frontEnd : Bool) (code : BitVec 7) (n : BitVec 6) (ws : List (BitVec 32)) : State :=
  State.reset.withCu { State.reset.cu with state := .assembling, buffer := headerWord frontEnd code 0 n :: ws }

/-- Device time. -/
def at_ (t : DeviceTime) (s : State) : State := s.withTb { s.tb with now := t }

/-- A segment that ends at the boundary of the next frame, decided at 600 s + 10 ticks, its boundary frame at a given
device time; the interval that ended at 600 s is the closing one. -/
def lateSegment (t : DeviceTime) : State :=
  let s := at_ ⟨600, 9⟩ ((withL1 forcing).withRe { forcing.re with segment := some ⟨2432, false, false⟩ })
  (s.withCc { s.cc with kept := List.replicate 45 ⟨⟨Vector.replicate 8 0, 0⟩, t⟩ }).withIu
    { s.iu with closing := some s.iu.current, current := { s.iu.current with index := 1, endSec := 1200 } }

/-! ## WellFormed refuses ill-formed terms -/

theorem test_wellFormed_refuses_twelve_words : (Instr.badInboundFrame (List.replicate 12 0)).wellFormed = false := by
  decide
theorem test_wellFormed_refuses_no_words : (Instr.badInboundFrame []).wellFormed = false := by decide
theorem test_wellFormed_refuses_known_code : (Instr.unknownCommand 33).wellFormed = false := by decide
theorem test_wellFormed_refuses_long_relay : (Instr.frontEndRelay 1 (List.replicate 61 0)).wellFormed = false := by
  decide
theorem test_wellFormed_refuses_long_classes :
    (Instr.setClasses { cells := List.replicate 21 { cell := 0, code := some 0, action := some 0 } }).wellFormed =
      false := by decide
theorem test_wellFormed_accepts :
    (Instr.badInboundFrame (List.replicate 11 0)).wellFormed = true ∧ (Instr.unknownCommand 34).wellFormed = true ∧
    (Instr.frontEndRelay 1 (List.replicate 60 0)).wellFormed = true := by decide

/-! ## Worked examples of the manual -/

/-- Section 1.3: gain 850, offset 1,200. -/
theorem test_scaling :
    scaleSample 850 1200 2500000 = 32409 ∧ scaleSample 850 1200 (BitVec.ofInt 24 (-2500000)) = -32440 ∧
    scaleSample 850 1200 8000000 = 100000 ∧ sampleClipped 850 1200 8000000 false = true ∧
    sampleClipped 850 1200 2500000 false = false ∧ sampleClipped 850 1200 5000000 true = true := by decide +kernel

/-- R8: exact halves, 0.5, 1.5 and −0.5, are rounded away from zero. -/
theorem test_scaling_halves :
    scaleSample 32768 0 1 = 1 ∧ scaleSample 32768 0 3 = 2 ∧ scaleSample 32768 0 (BitVec.ofInt 24 (-1)) = -1 := by
  decide +kernel

/-- Sections 3.3, 3.5 and 3.6. -/
theorem test_exactRoot :
    exactRoot 122012000000 256 = 21831 ∧ exactRoot 108600000000 256 = 20597 ∧ exactRoot 19601960049 196 = 10001 ∧
    exactRoot 40 200 = 0 ∧ exactRoot 50 200 = 1 ∧ exactRoot 1300592000000 2560 = 22540 ∧
    exactRoot 2095051800 4 = 22886 := by decide +kernel

/-- Section 3.7: with Unom 23,000. -/
theorem test_permille :
    permille 21831 23000 = 949 ∧ permille 20597 23000 = 896 ∧ permille 1150 23000 = 50 ∧ permille 0 23000 = 0 ∧
    permille 46000 23000 = 2000 ∧ permille 100000 23000 = 2000 ∧ permille 20699 23000 = 900 := by decide

/-- Section 3.8: the levels of the power-on set. -/
theorem test_levels : setLevels ThresholdSet.powerOn = State.reset.ps.levels ∧ setNeLevel ThresholdSet.powerOn = 1150 := by
  decide

/-- Section 2.8: segment frequency in mHz. -/
theorem test_segment_frequency :
    roundHalfUp (12800000 * 10) 2561 = 49980 ∧ roundHalfUp (12800000 * 10) 2133 = 60009 := by decide

/-- R65 at the dip-start level 20,700 and the levels around it. -/
theorem test_detector :
    Detector.normal.test Levels.powerOn 20700 = .normal ∧ Detector.normal.test Levels.powerOn 20699 = .dip ∧
    Detector.dip.test Levels.powerOn 21159 = .dip ∧ Detector.dip.test Levels.powerOn 21160 = .normal ∧
    Detector.normal.test Levels.powerOn 1149 = .intr ∧ Detector.intr.test Levels.powerOn 1609 = .intr ∧
    Detector.swell.test Levels.powerOn 24841 = .swell ∧ Detector.swell.test Levels.powerOn 24840 = .normal := by decide

/-- Section 6.1: a dip in cell 20, an interruption in cell 24, a MIXED event in cells 0 and 25. -/
theorem test_classification :
    placeEvent State.reset.cm.bounds ⟨23000, 23000, 23000⟩ .dip (some ⟨900, .l1⟩) none 768 = ⟨20, none⟩ ∧
    placeEvent State.reset.cm.bounds ⟨23000, 23000, 23000⟩ .interruption (some ⟨0, .l1⟩) none 23042256 = ⟨24, none⟩ ∧
    placeEvent State.reset.cm.bounds ⟨23000, 23000, 23000⟩ .mixed (some ⟨18400, .l1⟩) (some ⟨26450, .l3⟩) 1536 =
      ⟨0, some 25⟩ := by decide

/-- Section 8.6: the verdicts of L1, L2 and L3. -/
theorem test_verdict :
    verdict ⟨0, 5, 15, 30, 8, 950⟩ 1008 50 900 = .pass ∧ verdict ⟨0, 53, 15, 60, 0, 880⟩ 1008 50 900 = .fail ∧
    verdict ⟨0, 183, 15, 10, 0, 800⟩ 1008 50 900 = .insufficient := by decide

/-- Section 9.7: forwarded samples. -/
theorem test_annotation :
    peakLimit 227 = 7467505 ∧ withMark 2500000 true = 2500001 ∧ withMark 2199999 false = 2199998 ∧
    annotate State.reset.et { ChannelEntry.powerOn with annotation := .peak } 7467505 = 7467504 ∧
    annotate State.reset.et { ChannelEntry.powerOn with annotation := .peak } (BitVec.ofInt 24 (-7467506)) =
      BitVec.ofInt 24 (-7467505) := by decide

/-- R152: a frame of eleven words with its check is good, and is not once a bit of it changes. -/
theorem test_frame_check :
    inboundGood (inboundWords (frame 6)) = true ∧ inboundFields (inboundWords (frame 6)) = frame 6 ∧
    inboundGood ((inboundWords (frame 6)).set 3 1#32) = false := by decide +kernel

/-- R179: a header word, bit by bit: 1, 0 (RECORDER), code 5, selector 3, bit 6, length 0. -/
theorem test_header :
    headerWord false 5 3 0 = 0b1_0_0000101_0000000000000011_0_000000#32 ∧
    headerCode 0b1_0_0000101_0000000000000011_0_000000#32 = 5 ∧
    headerSelector 0b1_0_0000101_0000000000000011_0_000000#32 = 3 := by decide

/-! ## One step of each command, by the rules -/

/-- R1, R167. -/
theorem test_powerOn : after .powerOn (onLane .lost) = State.reset := by rfl
/-- R160, R168: a paced frame, one tick of device time. -/
theorem test_tick : (after .localOscillatorTick State.reset).tb.now = ⟨0, 1⟩ ∧
    (after .localOscillatorTick State.reset).out.outbound.map (·.data) = [false] := by decide +kernel
/-- R155. -/
theorem test_goodFrame : (after (.goodInboundFrame (frame 3)) State.reset).fl.lane = .check := by decide +kernel
/-- R157, R158: a gap of one frame is patched. -/
theorem test_goodFrame_gap :
    (after (.goodInboundFrame (frame 7)) (onLane .aligned)).out.outbound.map (·.subst) = [true, false] := by
  decide +kernel
/-- R155: a bad frame ends CHECK. -/
theorem test_badFrame :
    (after (.badInboundFrame (List.replicate 11 0)) (onLane .check)).fl.lane = .hunt := by decide +kernel
/-- R153: eleven words of a good frame, one by one, are that frame. -/
theorem test_words_of_good_frame :
    (after (.badInboundFrame (inboundWords (frame 6))) State.reset).fl.lane = .check := by decide +kernel
/-- R155, R169. -/
theorem test_check_reaches_four :
    (after (.checkCountReachesFour (frame 6))
      ((onLane .check).withFl { (onLane .check).fl with checkCount := 3 })).tb.source = .frame := by decide +kernel
/-- R168: sixteen ticks at once. -/
theorem test_silence :
    (after .silenceCountExpiry ((onLane .aligned).withFl { (onLane .aligned).fl with silence := 15 })).tb.now =
      ⟨0, 16⟩ := by decide +kernel
/-- R154 at the power-on link timeout. -/
theorem test_link_timeout :
    (after .linkTimeoutExpiry ((onLane .hunt).withFl { (onLane .hunt).fl with sinceReference := 1279 })).fl.lane =
      .lost := by decide +kernel
/-- R22, R23: a forced boundary 128 frames after the last one, decided at position 143. -/
theorem test_forced_boundary : (after (.forcedBoundary (frame 6)) forcing).ct.position = 16 ∧
    (after (.forcedBoundary (frame 6)) forcing).ct.state = .hold := by decide +kernel
/-- R66, R67: the ceiling was reached 5 ticks ago; 15 ticks ago the running duration was 10 below it, 5 ago it. -/
theorem test_ceiling_within_lag :
    let x := { event .supply with running := 54975581388799, overrun := 5 }
    x.runningAt 15 = 54975581388789 ∧ x.runningAt 5 = 54975581388799 ∧ x.runningAt 0 = 54975581388799 ∧
    ({ event .supply with running := 54975581388799 }).tick.overrun = 1 := by decide
/-- R18, R23: a candidate at position 50 carried past a boundary at 98. -/
theorem test_candidate_before_boundary : (Candidate.crossing 50 1).carry 98 = .crossing 0 1 ∧
    (Candidate.crossing 120 2).carry 98 = .crossing 22 2 := by decide
/-- R21, R27, R28: the third debounce sample makes the crossing a boundary 120 frames after the last one. -/
theorem test_accepted_crossing :
    let t := after (.goodInboundFrame below) (crossing .acquire 1 23000)
    t.ct.state = .locked ∧ t.ct.lastGood = 120 ∧ t.ct.position = 4 ∧ t.ct.polarity = some .negative := by decide +kernel
/-- R30: the segment ends at its twentieth half cycle. -/
theorem test_segment_end : (after (.segmentEnd (frame 6)) forcing).ct.segmentCount = some 0 := by decide +kernel
/-- R118: a THIN span follows a FULL one. -/
theorem test_span_end :
    ((after (.captureSpanEnd (frame 6)) ((holding (capture .filling .keep) forcing).withCe
      { (holding (capture .filling .keep) forcing).ce with fill := some (filling none none) })).ce.fill.map
        (·.kind)) = some .thin := by decide +kernel
/-- R121: the P-th boundary settles the capture. -/
theorem test_post_count_end :
    ((after (.postTriggerCountEnd (frame 6)) ((holding (capture .filling .keep) forcing).withCe
      { (holding (capture .filling .keep) forcing).ce with fill := some (filling (some ⟨7, 8⟩) none) })).ce.directory.map
        (·.state)) = [.settled] := by decide +kernel
/-- R121: the last boundary of the manual length settles it. -/
theorem test_manual_end :
    (after (.manualCaptureEnd (frame 6)) ((holding (capture .filling .keep) forcing).withCe
      { (holding (capture .filling .keep) forcing).ce with fill := some (filling none (some 1)) })).ce.fill = none := by
  decide +kernel
/-- R132, R137. -/
theorem test_interval_end : (after (.intervalEnd .tick) (at_ ⟨599, 12799⟩ State.reset)).iu.current.endSec = 1200 ∧
    (after (.intervalEnd .tick) (at_ ⟨599, 12799⟩ State.reset)).iu.log.length = 1 := by decide +kernel
/-- R137: E plus 48 ticks, and not one tick before. -/
theorem test_closing_timeout :
    (after (.closingIntervalTimeout .tick) ((at_ ⟨600, 47⟩ State.reset).withIu { State.reset.iu with
      closing := some State.reset.iu.current, current := { State.reset.iu.current with endSec := 1200 } })).iu.closing =
        none ∧
    (after .localOscillatorTick ((at_ ⟨600, 46⟩ State.reset).withIu { State.reset.iu with
      closing := some State.reset.iu.current, current := { State.reset.iu.current with endSec := 1200 } })).iu.log =
        [] := by decide +kernel
/-- R143. -/
theorem test_period_end :
    (after (.observationPeriodEnd .tick) ((at_ ⟨599, 12799⟩ State.reset).withIu
      { State.reset.iu with period := 1 })).iu.summaries.length = 1 := by decide +kernel
/-- R27: without a reference the second accepted crossing does not lock. -/
theorem test_no_lock_without_reference :
    ({ Tracker.powerOn with acceptedRun := 1 }).nextState .accepted none = .acquire ∧
    ({ Tracker.powerOn with acceptedRun := 1 }).nextState .accepted (some .l1) = .locked := by decide
/-- R172: the frame before the newest is one tick earlier in the new count. -/
theorem test_recount :
    ({ Tracker.powerOn with lateTimes := [⟨5, 7⟩, ⟨5, 8⟩] }).recount ⟨9, 0⟩ =
      { Tracker.powerOn with lateTimes := [⟨8, 12799⟩, ⟨9, 0⟩] } := by decide +kernel
/-- R116: a CLOSED record of the same ident is another event's. -/
theorem test_closed_record_keeps_capture : (record 4).nameCapture 2 = record 4 := by decide
/-- R68, R80: with the ident 1 taken by a GAP event, the supply failing at the first refreshed values opens event 2. -/
theorem test_gap_closes_and_supply_opens :
    ((after (.goodInboundFrame (frame 6)) (delivering 0 ((opened .gap forcing).withEr
      { forcing.er with nextIdent := 2 }))).et.context.map (fun x => (x.ident, x.kind, x.running))) =
      some (2, .supply, 15) := by decide +kernel
/-- R177. -/
theorem test_wake : (after (.wakeOnActivity .inbound) (asleep State.reset)).tb.lastWake = some .inboundActivity := by
  decide +kernel
/-- R176. -/
theorem test_wake_timer :
    (after .wakeTimerExpiry ((asleep (at_ ⟨4, 12799⟩ State.reset)).withTb
      { (asleep (at_ ⟨4, 12799⟩ State.reset)).tb with countdown := some 1 })).tb.power = .run := by decide +kernel
/-- R164, R179: the two words of a GET STATUS header. -/
theorem test_return_frame :
    (after (.returnFrame (halves 0x3C98#16 (frameCheck [headerWord false 32 0 0])) (some (headerWord false 32 0 0)))
      State.reset).ra.responses.map (·.code) = [32] := by decide +kernel
/-- R179, R182: the payload of SET TIME 70,000 s, bit by bit: field code 1 with value 0, halves 1 and 4,464. -/
theorem test_assembled_message :
    (after (goodReturn 0b0_000000000000000_0001000101110000#32) (assembling false 24 3
      [0b0_0000001_000000000000000000000000#32, 1#32])).tb.now = ⟨70000, 0⟩ ∧
    (after (goodReturn 0b0_0000011_000000000000000000000000#32) (assembling false 24 1 [])).ra.responses =
      [answerOf 24 .invalid []] ∧
    (after (goodReturn 0b0_0000001_000000000000000000000000#32) (assembling false 24 1 [])).ra.responses =
      [answerOf 24 .malformed []] := by decide +kernel
theorem test_unknown : (after (.unknownCommand 34) State.reset).ra.responses = [answerOf 34 .unknown []] := by
  decide +kernel
theorem test_relay : (after (.frontEndRelay 3 [1#32]) State.reset).fl.relay = [1#32] := by decide +kernel
theorem test_relay_complete :
    (after .relayComplete ((State.reset.withFl { State.reset.fl with relay := [1#32] }).withCu
      { State.reset.cu with state := .executing, work := .relaying 3 })).ra.responses = [answerOf 3 .relayed []] := by
  decide +kernel
/-- R11, R30: M 20 is clamped to 16; without a phase role STATE, with M 10. -/
theorem test_start : (after (.start (some 20)) (withL1 (onLane .aligned))).ra.responses = [answerOf 1 .done [1, 16]] ∧
    (after (.start none) State.reset).ra.responses = [answerOf 1 .state [10]] := by decide +kernel
theorem test_stop : (after .stop (opened .gap (measure .suspended State.reset))).et.context = none := by decide +kernel
theorem test_clear_records : (after .clearRecords (holding (capture .settled .keep) State.reset)).ce.directory = [] ∧
    (after .clearRecords (measure .running State.reset)).ra.responses = [answerOf 3 .state []] := by decide +kernel
theorem test_clear_complete :
    (after .clearRecordsComplete (after .clearRecords State.reset)).ra.responses = [answerOf 3 .done []] := by
  decide +kernel
/-- R5: gain 0 is clamped to 1; R3: two slots cannot hold L1. -/
theorem test_set_channel :
    (after (.setChannel 3 { gain := some 0 }) State.reset).cc.table[2].gain = 1 ∧
    (after (.setChannel 3 { role := some 1 }) (withL1 State.reset)).ra.responses = [answerOf 4 .invalid []] := by
  decide +kernel
theorem test_get_channel :
    (after (.getChannel 8) State.reset).ra.responses = [answerOf 5 .done [0, 0, 65536, 0, 0, 227]] ∧
    (after (.getChannel 9) State.reset).ra.responses = [answerOf 5 .invalid []] := by decide +kernel
/-- R51, R53: set B at power-on; dip end may not lie at dip start. -/
theorem test_set_profile :
    (after (.setProfile 1 { dipStart := some 910 }) State.reset).ps.setB.phase.l1.dipStart = 910 ∧
    (after (.setProfile 1 { dipStart := some 920 }) State.reset).ra.responses = [answerOf 6 .invalid []] := by
  decide +kernel
theorem test_get_profile :
    (after (.getProfile 2) State.reset).ra.responses =
      [answerOf 7 .done [0, 2, 1, 50, 7, 50, 900, 1100, 23000, 50, 70, 900, 920, 1080, 1100]] := by decide +kernel
theorem test_select_write_set : (after (.selectWriteSet 1) State.reset).ps.write = .a := by decide +kernel
theorem test_switch_profile : (after (.switchProfile 2) State.reset).ps.switchTo = some .b ∧
    (after (.switchProfile 1) State.reset).ps.switchTo = none := by decide +kernel
/-- R91: b2 may not reach b1. -/
theorem test_set_classes :
    (after (.setClasses { cells := [{ cell := 39, action := some 2 }] }) State.reset).cm.cells[39].action = .priority ∧
    (after (.setClasses { b2 := some 800 }) State.reset).ra.responses = [answerOf 10 .invalid []] := by decide +kernel
theorem test_get_classes :
    (after (.getClasses 2) State.reset).ra.responses.map (fun r => match r.body with
      | .words ws => ws.length
      | .timeAtGrant => 0) = [10 + 15 * 5 + 1] := by decide +kernel
theorem test_clear_counts :
    (after .clearCounts (State.reset.withEr { State.reset.er with locked := true })).ra.responses =
      [answerOf 12 .locked []] := by decide +kernel
theorem test_read_events : (after (.readEvents {}) State.reset).ra.responses.map (·.form) = [.endMessage] ∧
    (after (.readEvents {}) (State.reset.withEr { State.reset.er with records := [record 4] })).ra.responses.map
      (·.form) = [.streamItem] := by decide +kernel
theorem test_release_events :
    (after (.releaseEvents { upTo := some 4 }) (State.reset.withEr { State.reset.er with
      records := [record 4, record 5] })).er.records = [record 5] := by decide +kernel
theorem test_retain : (after .retain State.reset).er.locked = true := by decide +kernel
/-- R113: T 5 is below 2F = 6. -/
theorem test_set_capture :
    (after (.setCapture { full := some 3, thin := some 5 }) State.reset).ra.responses =
      [answerOf 16 .done [4, 4, 16, 16, 8, 64, 32, 0]] := by decide +kernel
theorem test_trigger : (after .trigger State.reset).ra.responses = [answerOf 17 .state []] := by decide +kernel
theorem test_list_captures : (after .listCaptures State.reset).ra.responses = [answerOf 18 .done [128]] := by
  decide +kernel
theorem test_read_capture :
    (after (.readCapture 1 none) (holding (capture .settled .keep) State.reset)).ra.blockQueue = [⟨1, 0⟩] ∧
    (after (.readCapture 1 (some 1)) (holding (capture .settled .keep) State.reset)).ra.responses =
      [answerOf 19 .invalid []] := by decide +kernel
theorem test_release_capture :
    (after (.releaseCapture 1) (holding (capture .settled .keep) State.reset)).ce.free.length = 128 := by
  decide +kernel
theorem test_read_intervals : (after (.readIntervals {}) State.reset).ra.responses.map (·.form) = [.endMessage] := by
  decide +kernel
/-- R145: 700 is rounded down to 600. -/
theorem test_set_observation :
    (after (.setObservation { length := some 700 }) State.reset).iu.length = 600 ∧
    (after (.setObservation { length := some 59 }) State.reset).iu.length = 60 := by decide +kernel
theorem test_read_summaries : (after .readSummaries State.reset).cu.state = .streaming := by decide +kernel
theorem test_set_time : (after (.setTime { seconds := some 90, tick := some 12800 }) State.reset).tb.now =
    ⟨90, 12799⟩ := by decide +kernel
/-- R173: the data are taken at the grant, one tick later. -/
theorem test_get_time :
    ((after .localOscillatorTick (after .getTime State.reset)).ra.sending.map (·.left.length)) = some 5 := by
  decide +kernel
theorem test_set_wake : (after (.setWake { timer := some 65536, inbound := some 2 }) State.reset).tb.wakeTimer =
    65535 ∧ (after (.setWake { inbound := some 2 }) State.reset).tb.inboundWake = false := by decide +kernel
theorem test_standby : (after .standby (onLane .lost)).tb.power = .standby ∧
    (after .standby State.reset).ra.responses = [answerOf 27 .state []] := by decide +kernel
/-- R154: at or above the new value CHECK gives way to LOST, timeout passed already being set or not. -/
theorem test_set_link_in_check :
    (after (.setLink (some 32)) ((onLane .check).withFl { (onLane .check).fl with
      sinceReference := 32, timeoutPassed := true })).fl.lane = .lost := by decide +kernel
theorem test_set_link : (after (.setLink (some 31)) State.reset).fl.linkTimeout = 32 ∧
    (after (.setLink (some 32)) (State.reset.withFl { State.reset.fl with sinceReference := 32 })).fl.lane = .lost := by
  decide +kernel
theorem test_set_reports : (after (.setReports { response := some 4 }) State.reset).ra.levels.response = 3 := by
  decide +kernel
/-- R191: a queued notice with no cause due is withdrawn, and the grant passes to the event push. -/
theorem test_notice_withdrawn :
    let t := after .localOscillatorTick ((State.reset.withNu { State.reset.nu with queued := true }).withRa
      { State.reset.ra with eventPushes := [⟨4, .opened⟩] })
    t.nu.queued = false ∧ t.ra.eventPushes = [] := by decide +kernel
theorem test_set_notices :
    (after (.setNotices (some 0x200)) (State.reset.withNu { State.reset.nu with requests := 0x200 })).nu.queued =
      true := by decide +kernel
theorem test_ack_notices :
    (after (.ackNotices (some 0x200)) (State.reset.withNu { State.reset.nu with requests := 0x201 })).nu.requests =
      1 := by decide +kernel
theorem test_get_status :
    (after .getStatus State.reset).ra.responses =
      [answerOf 32 .done [0, 0, 0, 0, 1, 0, 0, 0, 128, 0, 0, 0]] := by decide +kernel
theorem test_identify : (after .identify State.reset).ra.responses = [answerOf 33 .done [27, 441, 2]] := by
  decide +kernel
/-- R183: the waiting response takes the place that the grant frees. -/
theorem test_response_placed :
    (after (.responsePlaced .tick) (after .identify (State.reset.withRa { State.reset.ra with
      responses := List.replicate 8 (answerOf 1 .done []) }))).cu.state = .idle := by decide +kernel
theorem test_stream_item_sent :
    ((after (.streamItemSent .tick) (lastWord (.response .streamItem) (State.reset.withCu { State.reset.cu with
      state := .streaming, stream := some (.summaries 0) }))).ra.responses.map (·.form)) = [.endMessage] := by
  decide +kernel
theorem test_end_message_sent :
    (after (.endMessageSent .tick) (lastWord (.response .endMessage) (unitIn .streaming State.reset))).cu.state =
      .idle := by decide +kernel
/-- R106: the copy sent named capture 8, the record names 9. -/
theorem test_push_sent :
    ((after (.eventPushSent .tick) (lastWord (.eventPush ⟨4, .closed⟩ (some 8)) (State.reset.withEr
      { State.reset.er with records := [record 4] }))).er.records.map (·.flags)) = [0b1010000000000#13] := by
  decide +kernel
theorem test_notice_sent :
    (after (.noticeSent .tick) (lastWord .notice (State.reset.withNu { State.reset.nu with queued := true }))).nu.queued =
      false := by decide +kernel
theorem test_readout_end :
    ((after (.readoutEnd .tick) (lastWord (.captureData 1 true) (holding (capture .reading .keep)
      State.reset))).ce.directory.map (·.state)) = [.settled] := by decide +kernel
/-- R128: the discard test has succeeded during the readout. -/
theorem test_readout_discard :
    (after (.readoutEnd .tick) (lastWord (.captureData 1 true) (holding { capture .reading .undecided with
      discardDue := true } State.reset))).ce.directory = [] := by decide +kernel

/-! ## States and operands that meet the statements' hypotheses -/

theorem witness_StepRunsFrontOfQueue :
    (State.reset.withPending [.stop, .trigger]).pending = .stop :: [.trigger] ∧ State.reset.pending = [] := ⟨rfl, rfl⟩

/-- Searching in HUNT after power-on and in LOST. -/
theorem witness_SearchingTickPacesOneFrame :
    State.reset.Searching ∧ State.reset.tb.source = .localOsc ∧ (onLane .lost).Searching ∧
    (onLane .lost).tb.source = .localOsc := by unfold State.Searching; decide

theorem witness_GoodFrameEntersCheck : State.reset.Searching ∧ (onLane .lost).Searching := by
  unfold State.Searching; decide

/-- The next sequence number, and the wrap from 15 to 0. -/
theorem witness_ConsecutiveFrameIsTaken :
    (onLane .aligned).Aligned ∧ (onLane .aligned).Consecutive (frame 6) ∧
    ((onLane .aligned).withFl { (onLane .aligned).fl with lastSeq := some 15 }).Consecutive (frame 0) := by
  refine ⟨by unfold State.Aligned; decide, ⟨5, rfl, rfl⟩, ⟨15, rfl, rfl⟩⟩

/-- A boundary with refreshed values: of 0 cV and of 23,000 cV, with no event, a GAP event and a SUPPLY event open. -/
theorem witness_ConsecutiveFrameIsTaken_boundary :
    let s := fun sum (u : State) => delivering sum u
    let good := 23000 ^ 2 * 128
    (∀ sum, (s sum forcing).Aligned ∧ (s sum forcing).Consecutive (frame 6) ∧ (s sum forcing).Measuring ∧
      (s sum forcing).re.previous.isSome = true) ∧
    (s 0 forcing).decides (frame 6) = some forced ∧ (s good forcing).decides (frame 6) = some forced ∧
    forcing.et.supplyOpen = false ∧ (opened .gap forcing).et.supplyOpen = false ∧
    ¬(after (.goodInboundFrame (frame 6)) (s 0 forcing)).WatchedNormal ∧
    (after (.goodInboundFrame (frame 6)) (s 0 forcing)).WatchedIntr ∧
    (after (.goodInboundFrame (frame 6)) (s good forcing)).WatchedNormal ∧
    ¬(after (.goodInboundFrame (frame 6)) (s 0 (opened .supply forcing))).WatchedNormal ∧
    (after (.goodInboundFrame (frame 6)) (s good (opened .supply forcing))).WatchedNormal := by
  refine ⟨fun sum => ⟨⟨rfl, rfl, rfl⟩, ⟨5, rfl, rfl⟩, .inr rfl, rfl⟩, by decide +kernel, by decide +kernel,
    by decide, by decide, fun h => absurd (h .l1 (by decide +kernel)) (by decide +kernel),
    ⟨⟨.l1, by decide +kernel⟩, fun p => ?_⟩, fun p => ?_,
    fun h => absurd (h .l1 (by decide +kernel)) (by decide +kernel), fun p => ?_⟩ <;> cases p <;> decide +kernel

/-- A frame that decides no boundary, at positions 97 and 98, with no event and with one open. -/
theorem witness_ConsecutiveFrameIsTaken_within :
    let s := measure .starting (withL1 (onLane .aligned))
    let u := fun n => s.withCt { s.ct with position := n }
    (∀ n, (u n).Aligned ∧ (u n).Consecutive (frame 6) ∧ (u n).Measuring ∧ (u n).Midway) ∧
    (u 97).decides (frame 6) = none ∧ (u 98).decides (frame 6) = none ∧ (opened .supply s).decides (frame 6) = none ∧
    (opened .supply s).et.context = some (event .supply) ∧ s.tb.now.next ≠ s.tb.now ∧
    s.tb.now.next ≠ ⟨s.iu.current.endSec, 0⟩ ∧ s.iu.closing = none ∧ s.ce.fill = none ∧
    (after (.goodInboundFrame (frame 6)) (u 97)).re.earlyCount = 1 ∧
    (after (.goodInboundFrame (frame 6)) (u 98)).re.late.length = 1 := by
  refine ⟨fun n => ⟨⟨rfl, rfl, rfl⟩, ⟨5, rfl, rfl⟩, .inl rfl, fun m h => nomatch h⟩, ?_⟩
  decide +kernel

/-- The shortest gap and the longest. -/
theorem witness_GapIsPatched :
    (onLane .aligned).Aligned ∧ (onLane .aligned).fl.lastSeq = some 5 ∧
    (onLane .aligned).fl.lastFrame = some ⟨Vector.replicate 8 0, 0⟩ ∧ ((frame 7).seq - 5).toNat = 2 ∧
    ((frame 4).seq - 5).toNat = 15 := by unfold State.Aligned; decide

theorem witness_AlignedLaneDiscards :
    (onLane .aligned).tb.power = .run ∧ (onLane .aligned).fl.lane = .aligned ∧
    (onLane .aligned).fl.lastSeq = some (frame 5).seq ∧ (onLane .aligned).fl.inboundWords = [] ∧
    inboundGood (List.replicate 11 0) = false := by decide +kernel

/-- With and without timeout passed. -/
theorem witness_BadFrameEndsCheck :
    (onLane .check).tb.power = .run ∧ (onLane .check).fl.lane = .check ∧ (onLane .check).fl.inboundWords = [] ∧
    (onLane .check).fl.timeoutPassed = false ∧ inboundGood (List.replicate 11 0) = false ∧
    ((onLane .check).withFl { (onLane .check).fl with timeoutPassed := true }).fl.timeoutPassed = true := by
  decide +kernel

/-- The last good frame's own number, and the one after the next. -/
theorem witness_BadFrameEndsCheck_out_of_sequence :
    ¬(onLane .check).Consecutive (frame 5) ∧ ¬(onLane .check).Consecutive (frame 7) := by
  constructor <;> (rintro ⟨l, h, e⟩; cases h; exact absurd e (by decide))

theorem witness_ActivityWakesThePart :
    (asleep State.reset).tb.power = .standby ∧ (asleep State.reset).tb.inboundWake = true := by decide

theorem witness_ReturnFrameRunsItsCommand :
    State.reset.tb.power = .run ∧ State.reset.cu.state = .idle ∧ State.reset.fl.returnPosition = .word0 ∧
    headerCommand (33#7).toNat 0 = some .identify ∧ headerCommand (2#7).toNat 0 = some .stop := by decide

/-- A first word, headers of 1 and 60 payload words, a payload word; a message with one word more to come and with its
last: of SET LINK with a field, of SET CLASSES with a cell entry and its code, of code 34, for the FRONT END; a field code
too large, a class code before any cell entry, and a wide field cut off. -/
theorem witness_ReturnFrameRunsItsCommand_assembly :
    State.reset.fl.returnPosition = .word0 ∧ marker 0x3C980000#32 = 0x3C98#16 ∧ (60#6).toNat ≤ 60 ∧
    State.reset.cu.state ≠ .assembling ∧ (fieldWord 1 100).getLsbD 31 = false ∧
    (assembling false 28 1 []).Assembling false 28 0 1 [] ∧ ([] : List (BitVec 32)).length + 1 < (2#6).toNat ∧
    (FieldsOf 28 [(1, 100)] ∧ [] ++ [fieldWord 1 100] = payloadWords 28 [(1, 100)] ∧
      commandOf 28 0 [(1, 100)] = some (.setLink (some 100))) ∧
    (FieldsOf 10 [(11, 39), (12, 7)] ∧ commandOf 10 0 [(11, 39), (12, 7)] =
      some (.setClasses { cells := [{ cell := 39, code := some 7 }] })) ∧
    ((assembling true 28 1 []).Assembling true 28 0 1 [] ∧ (assembling false 34 1 []).Assembling false 34 0 1 []) ∧
    ((assembling false 28 1 []).cu.stream = none ∧ (assembling false 28 1 []).ra.responses.length < 8 ∧
      FieldsOf 28 [] ∧ [] ++ [fieldWord 2 0] = payloadWords 28 [] ++ fieldWord 2 0 :: [] ∧
      (commandFields 28).length < ((fieldWord 2 0).extractLsb' 24 7).toNat) ∧
    ((fieldWord 12 0).extractLsb' 24 7).toNat = 12 ∧ (∀ x ∈ ([] : List (Nat × BitVec 32)), x.1 ≠ 11) ∧
    WideField 24 1 ∧ ([] : List (BitVec 32)).length < 2 := by
  unfold State.Assembling FieldsOf WideField
  refine ⟨rfl, by decide, by decide, by decide, by decide, ⟨rfl, rfl, rfl, rfl⟩, by decide,
    ⟨⟨by decide, fun h => absurd h (by decide)⟩, by decide, by decide⟩, ⟨⟨by decide, fun _ b x a e h => ?_⟩, by decide⟩,
    ⟨⟨rfl, rfl, rfl, rfl⟩, rfl, rfl, rfl, rfl⟩,
    ⟨rfl, by decide, ⟨by decide, fun h => absurd h (by decide)⟩, by decide, by decide⟩, by decide, by decide, by decide,
    by decide⟩
  match b with
  | [] => cases e; revert h; decide
  | y :: b => exact ⟨y, List.mem_cons_self, by rw [← (List.cons.inj e).1]⟩

theorem witness_BadReturnFrameAbandonsAssembly :
    (unitIn .assembling State.reset).tb.power = .run ∧ (unitIn .assembling State.reset).cu.state = .assembling ∧
    (unitIn .assembling State.reset).fl.returnPosition = .word0 ∧ marker 0 ≠ 0x3C98#16 := by decide

/-- The other states at a bad word; a word 1 that the check held does not fit, in assembly and in IDLE; a header in each
state, of 61 payload words in IDLE. -/
theorem witness_BadReturnFrameAbandonsAssembly_others :
    let c := fun s : State => s.withFl { s.fl with returnPosition := .word1 0x3C980000#32 }
    State.reset.cu.state ≠ .assembling ∧ (c (unitIn .assembling State.reset)).cu.state = .assembling ∧
    (c State.reset).fl.returnPosition = .word1 0x3C980000#32 ∧ lowHalf 0x3C980000#32 ≠ frameCheck [1#32] ∧
    (unitIn .assembling State.reset).fl.returnPosition = .word0 ∧ State.reset.cu.state = .idle ∧ 61 ≤ (61#6).toNat ∧
    (unitIn .executing State.reset).cu.state = .executing := by decide +kernel

theorem witness_BusyUnitExecutesNoMessage :
    messageCode .identify = some 33 ∧ (unitIn .executing State.reset).tb.power = .run ∧
    (unitIn .executing State.reset).cu.state = .executing ∧ (unitIn .streaming State.reset).cu.state = .streaming := by
  decide

/-- A full source, and one place freed for a waiting response. -/
theorem witness_FullSourceHoldsResponses :
    let full := State.reset.withRa { State.reset.ra with responses := List.replicate 8 (answerOf 1 .done []) }
    let waits := full.withCu { full.cu with state := .executing, waiting := some (answerOf 33 .done [27, 441, 2]) }
    full.tb.power = .run ∧ full.cu.state = .idle ∧ 8 ≤ full.ra.responses.length ∧ waits.Searching ∧
    waits.ra.sending = none ∧
    waits.ra.responses = answerOf 1 .done [] :: List.replicate 7 (answerOf 1 .done []) ∧
    (answerOf 1 .done []).form = .single ∧ (List.replicate 7 (answerOf 1 .done [])).length < 8 ∧
    waits.cu.waiting = some (answerOf 33 .done [27, 441, 2]) ∧
    (∀ y : Source, waits.ra.levels.get y ≤ waits.ra.levels.response) := by
  refine ⟨rfl, rfl, by decide, by unfold State.Searching; decide, rfl, rfl, rfl, by decide, rfl, ?_⟩
  intro y; cases y <;> decide

/-- START waits for a place; CLEAR RECORDS while measuring waits with its refusal. -/
theorem witness_FullSourceHoldsResponses_messages :
    let full := (measure .running State.reset).withRa { State.reset.ra with
      responses := List.replicate 8 (answerOf 1 .done []) }
    messageCode (.start none) = some 1 ∧ messageCode .clearRecords = some 3 ∧ full.tb.power = .run ∧
    full.cu.state = .idle ∧ 8 ≤ full.ra.responses.length ∧ full.cc.measurement ≠ .stopped ∧
    ∀ k w ws, Instr.start none ≠ .frontEndRelay k (w :: ws) := by
  refine ⟨rfl, rfl, rfl, rfl, by decide, by decide, ?_⟩
  intro _ _ _ h; cases h

/-- The second and the third frame of a CHECK. -/
theorem witness_FourthFrameAligns_before :
    let s := fun n => (onLane .check).withFl { (onLane .check).fl with checkCount := n }
    (s 1).tb.power = .run ∧ (s 1).fl.lane = .check ∧ (s 1).fl.checkCount < 3 ∧ (s 2).fl.checkCount < 3 ∧
    (s 2).Consecutive (frame 6) := ⟨rfl, rfl, by decide, by decide, ⟨5, rfl, rfl⟩⟩

theorem witness_FourthFrameAligns :
    let s := measure .suspended ((onLane .check).withFl { (onLane .check).fl with checkCount := 3, breakDue := true })
    s.tb.power = .run ∧ s.fl.lane = .check ∧ s.fl.checkCount = 3 ∧ s.Consecutive (frame 6) ∧
    s.fl.breakDue = true ∧ s.iu.current.breaks < 65535 ∧ s.cc.measurement = .suspended :=
  ⟨rfl, rfl, rfl, ⟨5, rfl, rfl⟩, rfl, by decide, rfl⟩

/-- At the least link timeout, 32. -/
theorem witness_SilenceEndsAlignment :
    let s := (onLane .aligned).withFl { (onLane .aligned).fl with silence := 15, sinceReference := 15, linkTimeout := 32 }
    s.Aligned ∧ s.tb.source = .frame ∧ s.fl.silence = 15 ∧ s.fl.sinceReference + 1 < s.fl.linkTimeout := by
  unfold State.Aligned; decide

/-- CHECK below the link timeout, and with the timeout passed. -/
theorem witness_SilenceEndsAlignment_check :
    let s := fun b => (onLane .check).withFl { (onLane .check).fl with
      silence := 15, sinceReference := if b then 1280 else 1278, timeoutPassed := b }
    (s false).tb.power = .run ∧ (s false).tb.countdown = none ∧ (s false).fl.lane = .check ∧
    (s false).fl.silence = 15 ∧ (s false).fl.sinceReference + 1 < (s false).fl.linkTimeout ∧
    (s true).fl.timeoutPassed = true := by decide

/-- In CHECK, and with a SUPPLY event open: L1 in INTR, which is presumed, and L1 NORMAL, which is cut. -/
theorem witness_LinkTimeoutDeclaresLoss_supply :
    let s := withL1 (opened .supply (measure .suspended ((onLane .check).withFl
      { (onLane .check).fl with sinceReference := 1279 })))
    let l := s.withEt { s.et with detectors := ⟨.intr, .normal, .normal⟩ }
    (l.tb.power = .run ∧ l.tb.countdown = none ∧ l.fl.lane = .check ∧ l.fl.timeoutPassed = false ∧
      l.fl.linkTimeout ≤ l.fl.sinceReference + 1 ∧ l.fl.linkTimeout ≤ 65535 ∧ l.cc.measurement = .suspended ∧
      l.tb.source = .localOsc ∧ l.et.context = some (event .supply) ∧ (event .supply).kind = .supply) ∧
    (∀ p, l.watched p = true → l.et.detectors.get p = .dip ∨ l.et.detectors.get p = .intr) ∧
    ∃ p, s.watched p = true ∧ s.et.detectors.get p ≠ .dip ∧ s.et.detectors.get p ≠ .intr := by
  refine ⟨by decide, fun p => ?_, .l1, by decide, by decide, by decide⟩
  cases p <;> decide

/-- A SUPPLY event open with its running duration at the ceiling of R66 and, as no run leaves it, above. -/
theorem witness_LinkTimeoutDeclaresLoss_ceiling :
    let s := fun n => withL1 ((measure .suspended ((onLane .check).withFl
      { (onLane .check).fl with sinceReference := 1279 })).withEt { State.reset.et with
        context := some { event .supply with running := n } })
    (s 54975581388799).et.context = some { event .supply with running := 54975581388799 } ∧
    (s 54975581388800).cc.measurement = .suspended ∧ (s 54975581388800).tb.source = .localOsc ∧
    durationAfter 54975581388798 = 54975581388799 ∧ durationAfter 54975581388799 = 54975581388799 := by decide

/-- At the power-on and at the greatest link timeout; suspended and stopped. -/
theorem witness_LinkTimeoutDeclaresLoss :
    let s := measure .suspended ((onLane .hunt).withFl { (onLane .hunt).fl with sinceReference := 1279 })
    let t := (onLane .hunt).withFl { (onLane .hunt).fl with sinceReference := 65534, linkTimeout := 65535 }
    (s.tb.power = .run ∧ s.tb.countdown = none ∧ s.fl.lane = .hunt ∧ s.fl.timeoutPassed = false ∧
      s.fl.linkTimeout ≤ s.fl.sinceReference + 1 ∧ s.fl.linkTimeout ≤ 65535 ∧ s.cc.measurement = .suspended ∧
      s.et.context = none) ∧
    (t.fl.linkTimeout ≤ t.fl.sinceReference + 1 ∧ t.fl.linkTimeout ≤ 65535 ∧ t.cc.measurement = .stopped ∧
      t.et.context = none) := by decide

theorem witness_ForcedBoundaryIsPlaced :
    forcing.Aligned ∧ forcing.Consecutive (frame 6) ∧ forcing.Measuring ∧ forcing.decides (frame 6) = some forced ∧
    forced.kind = .synthetic ∧ forcing.ct.state = .locked :=
  ⟨by unfold State.Aligned; decide, ⟨5, rfl, rfl⟩, .inr rfl, by decide +kernel, rfl, rfl⟩

/-- ACQUIRE with the early mark clear and set, HOLD with it set. -/
theorem witness_ForcedBoundaryIsPlaced_places :
    let s := fun st e => forcing.withCt { forcing.ct with state := st, early := e, lastGood := 120 }
    (s .acquire false).decides (frame 6) = some ⟨.synthetic, 128, 143⟩ ∧
    (s .acquire true).decides (frame 6) = some ⟨.synthetic, 98, 143⟩ ∧
    (s .hold false).decides (frame 6) = some ⟨.synthetic, 120, 143⟩ ∧
    (s .hold true).decides (frame 6) = some ⟨.synthetic, 98, 143⟩ := by decide +kernel

/-- An accepted crossing in LOCKED, which stays with the reference and falls to HOLD without it; in ACQUIRE and HOLD at a
run of 0, 1 and 2; with no segment, and with one that goes on. -/
theorem witness_ForcedBoundaryIsPlaced_accepted :
    let d : Decision := ⟨.accepted, 120, 123⟩
    let g := (crossing .hold 2 23000).withCt { (crossing .hold 2 23000).ct with segmentCount := some 18 }
    ((crossing .locked 2 23000).Aligned ∧ (crossing .locked 2 23000).Consecutive below ∧
      (crossing .locked 2 23000).Measuring) ∧ d.kind = .accepted ∧
    (crossing .locked 2 23000).decides below = some d ∧ (crossing .locked 2 0).decides below = some d ∧
    (crossing .acquire 0 23000).decides below = some d ∧ (crossing .hold 1 23000).decides below = some d ∧
    (crossing .hold 1 23000).ct.segmentCount = none ∧ g.decides below = some d ∧ 18 + 1 < 2 * g.ct.cycles ∧
    (after (.goodInboundFrame below) (crossing .locked 2 23000)).ct.reference = some .l1 ∧
    (after (.goodInboundFrame below) (crossing .locked 2 0)).ct.state = .hold := by
  refine ⟨⟨by unfold State.Aligned; decide, ⟨5, rfl, rfl⟩, .inr rfl⟩, rfl, ?_, ?_, ?_, ?_, ?_, ?_, ?_, ?_, ?_⟩ <;>
    decide +kernel

/-- With a pending switch and no event, and with a SUPPLY event open; with a segment open in the RMS Engine. -/
theorem witness_SegmentEndOpensNext :
    let s := (forcing.withPs { forcing.ps with switchTo := some .b }).withRe
      { forcing.re with segment := some ⟨5, false, false⟩ }
    s.Aligned ∧ s.Consecutive (frame 6) ∧ s.Measuring ∧ s.decides (frame 6) = some forced ∧
    s.ct.endsSegment = true ∧ s.re.segment.isSome = true ∧ s.ps.switchTo = some .b ∧ s.et.supplyOpen = false ∧
    (opened .supply s).et.supplyOpen = true ∧ forcing.ps.switchTo = none :=
  ⟨by unfold State.Aligned; decide, ⟨5, rfl, rfl⟩, .inr rfl, by decide +kernel, by decide, rfl, rfl, by decide, by decide,
    rfl⟩

/-- A boundary at position 143: with no previous half cycle and with one, with a pair pending, with no segment, with one
that goes on and with one that ends, at a segment of accepted boundaries only, and under NE above its level. -/
theorem witness_SegmentEndOpensNext_sums :
    let g := (delivering 0 forcing).withRe { (delivering 0 forcing).re with
      segment := some ⟨2432, false, false⟩, segmentSums := ⟨0, 0, 0, 2000 ^ 2 * 2560⟩ }
    let n := g.withCc { g.cc with table := g.cc.table.set 1 { ChannelEntry.powerOn with role := .ne } }
    let w := g.withCc { g.cc with table := g.cc.table.set 2 { ChannelEntry.powerOn with awaiting := some ⟨7, 8⟩ } }
    let a := ((crossing .locked 2 23000).withCt { (crossing .locked 2 23000).ct with
      segmentCount := some 19, segmentAccepted := true }).withRe
        { (crossing .locked 2 23000).re with segment := some ⟨2432, false, false⟩ }
    (forcing.re.previous = none ∧ forcing.re.segment = none ∧ forcing.cc.pairPending = false ∧
      98 ≤ forcing.ct.position ∧ forcing.decides (frame 6) = some forced) ∧
    (g.re.previous.isSome = true ∧ g.re.segment = some ⟨2432, false, false⟩ ∧ g.ct.endsSegment = true ∧
      (g.withCt { g.ct with segmentCount := some 18 }).ct.endsSegment = false ∧ g.iu.closing = none ∧
      g.tb.now.next ≠ ⟨g.iu.current.endSec, 0⟩ ∧ g.decides (frame 6) = some forced) ∧
    (n.cc.present .ne = true ∧ n.decides (frame 6) = some forced ∧
      (after (.segmentEnd (frame 6)) n).ps.neLevel < exactRoot (2000 ^ 2 * 2560) (2432 + 128)) ∧
    (w.cc.pairPending = true ∧ w.decides (frame 6) = some forced) ∧
    (a.ct.endsSegment = true ∧ a.ct.segmentAccepted = true ∧ a.decides below = some ⟨.accepted, 120, 123⟩) := by
  decide +kernel

/-- The first refreshed values of a STARTING measurement, at its fourth complete half cycle. -/
theorem witness_SegmentEndOpensNext_running :
    let s := measure .starting (delivering 0 forcing)
    let u := s.withCe { s.ce with completeHalves := 3 }
    u.Aligned ∧ u.Consecutive (frame 6) ∧ u.Measuring ∧ u.decides (frame 6) = some forced ∧
    u.re.previous.isSome = true ∧ u.ce.ready = false ∧ (after (.goodInboundFrame (frame 6)) u).cc.measurement = .running ∧
    (after (.goodInboundFrame (frame 6)) u).ce.ready = true :=
  ⟨⟨rfl, rfl, rfl⟩, ⟨5, rfl, rfl⟩, .inl rfl, by decide +kernel⟩

/-- A capture at the last boundary of its post-trigger count, of its manual length, and of its FULL span. -/
theorem witness_CaptureFillingAtBoundary :
    let s := fun x => (holding (capture .filling .keep) forcing).withCe
      { (holding (capture .filling .keep) forcing).ce with fill := some x }
    let p := filling (some ⟨7, 8⟩) none
    let m := filling none (some 1)
    let n := filling none none
    ((s p).Aligned ∧ (s p).Consecutive (frame 6) ∧ (s p).Measuring ∧ (s p).ra.sending = none ∧
      (s p).decides (frame 6) = some forced ∧ (s p).RoomToFill p (capture .filling .keep) ∧
      (∀ e ∈ (s p).ce.directory, e.state = .filling → e = capture .filling .keep) ∧ p.countEnds.postDone = true) ∧
    ((s m).decides (frame 6) = some forced ∧ (s m).RoomToFill m (capture .filling .keep) ∧
      m.countEnds.postDone = false ∧ m.countEnds.manualDone = true) ∧
    ((s n).decides (frame 6) = some forced ∧ (s n).RoomToFill n (capture .filling .keep) ∧
      n.countEnds.postDone = false ∧ n.countEnds.manualDone = false ∧ n.endsSpan = true) := by
  refine ⟨⟨by unfold State.Aligned; decide, ⟨5, rfl, rfl⟩, .inr rfl, rfl, by decide +kernel,
    ⟨rfl, rfl, .inr (.inr ⟨by decide, by decide⟩)⟩, by decide, by decide⟩,
    ⟨by decide +kernel, ⟨rfl, rfl, .inr (.inr ⟨by decide, by decide⟩)⟩, by decide, by decide⟩,
    ⟨by decide +kernel, ⟨rfl, rfl, .inr (.inr ⟨by decide, by decide⟩)⟩, by decide, by decide, by decide⟩⟩

/-- At the last word of a readout's message, with the captures' idents distinct. -/
theorem witness_CaptureFillingAtBoundary_sending :
    let s := lastWord (.captureData 2 true) ((holding (capture .filling .keep) forcing).withCe
      { (holding (capture .filling .keep) forcing).ce with fill := some (filling (some ⟨7, 8⟩) none) })
    s.decides (frame 6) = some forced ∧ s.ra.sending ≠ none ∧ (s.ce.directory.map (·.ident)).Nodup := by decide +kernel

/-- A filling capture's next record: outside a THIN span's grid; in the last block; at the head of the free list, where the
span is fresh and where the last block is full. -/
theorem witness_CaptureFillingAtBoundary_stores :
    let n := filling none none
    let k := { n with kind := .thin, offset := 17, fresh := false }
    let l := { n with fresh := false }
    let held := fun (es : List (List Int)) (s : State) => s.withCe { s.ce with
      blocks := s.ce.blocks.set 0 { kind := .full, spacing := 1, first := ⟨0, 0⟩, entries := es } }
    (∀ x, (storing x).Aligned ∧ (storing x).Consecutive (frame 6) ∧ (storing x).Measuring ∧ (storing x).Midway ∧
      (storing x).ce.fill = some x ∧ (storing x).ce.filling = some (capture .filling .keep)) ∧
    (storing n).BlocksOnce ∧ (storing k).decides (frame 6) = none ∧ ¬k.TakesRecord ∧ l.TakesRecord ∧
    ¬l.BeginsBlock ((held [[7]] (storing l)).ce.lastBlock (capture .filling .keep)) ((storing l).tb.now.next) ∧
    (capture .filling .keep).blocks.getLast? = some 0 ∧ n.BeginsBlock CaptureBlock.unused ⟨0, 1⟩ ∧
    l.BeginsBlock ((held (List.replicate 256 [7]) (storing l)).ce.lastBlock (capture .filling .keep)) ⟨0, 256⟩ ∧
    (capture .filling .keep).blocks.length < (storing n).ce.settings.maxBlocks ∧
    (storing n).ce.free = 1 :: (List.range 128).drop 2 ∧
    ((after (.goodInboundFrame (frame 6)) (held [[7]] (storing l))).ce.block 0).entries = [[7], [0]] ∧
    ((after (.goodInboundFrame (frame 6)) (storing n)).ce.block 1).entries = [[0]] := by
  refine ⟨fun x => ⟨⟨rfl, rfl, rfl⟩, ⟨5, rfl, rfl⟩, .inr rfl, (fun m h => nomatch h), rfl, rfl⟩, ?_⟩
  unfold State.BlocksOnce FillState.TakesRecord FillState.BeginsBlock
  decide +kernel

/-- With no block free: a capture that can be evicted and none; a capture at its maximum of blocks. -/
theorem witness_CaptureFillingAtBoundary_evicts :
    let n := filling none none
    let c := capture .filling .keep
    let e := { capture .settled .keep with ident := 2, blocks := (List.range 128).drop 1 }
    let s := (storing n).withCe { (storing n).ce with directory := [c, e], free := [] }
    let p := s.withCe { s.ce with directory := [c, { e with decision := .priority }] }
    let m := (storing n).withCe { (storing n).ce with settings := { (storing n).ce.settings with maxBlocks := 1 } }
    s.Midway ∧ s.BlocksOnce ∧ s.ce.free = [] ∧ s.ce.directory = [c] ++ e :: [] ∧ ¬c.Evictable ∧ e.Evictable ∧
    e.blocks = 1 :: (List.range 128).drop 2 ∧ s.decides (frame 6) = none ∧ n.TakesRecord ∧
    n.BeginsBlock (s.ce.lastBlock c) s.tb.now.next ∧ c.blocks.length < s.ce.settings.maxBlocks ∧
    p.BlocksOnce ∧ p.ce.free = [] ∧ (∀ q ∈ p.ce.directory, ¬q.Evictable) ∧ p.decides (frame 6) = none ∧
    m.BlocksOnce ∧ m.ce.settings.maxBlocks ≤ c.blocks.length ∧ m.decides (frame 6) = none ∧
    (after (.goodInboundFrame (frame 6)) s).ce.directory = [{ c with blocks := [0, 1] }] ∧
    (after (.goodInboundFrame (frame 6)) p).ce.fill = none ∧ (after (.goodInboundFrame (frame 6)) m).ce.fill = none := by
  refine ⟨(fun m h => nomatch h), ?_⟩
  unfold State.BlocksOnce Capture.Evictable FillState.TakesRecord FillState.BeginsBlock
  decide +kernel

/-- A SUPPLY event that opens: with the trigger-ready flag set a capture starts for it, and with it clear none. -/
theorem witness_CaptureFillingAtBoundary_opens :
    let r := (delivering 0 forcing).withCe { (delivering 0 forcing).ce with ready := true }
    let t := after (.goodInboundFrame (frame 6)) r
    let u := after (.goodInboundFrame (frame 6)) (delivering 0 forcing)
    (r.Aligned ∧ r.Consecutive (frame 6) ∧ r.Measuring ∧ r.Midway) ∧ r.BlocksOnce ∧ r.ce.settings.mode = .auto ∧
    r.ce.fill = none ∧ r.ce.filling = none ∧ r.et.supplyOpen = false ∧ r.decides (frame 6) = some forced ∧
    t.et.context.map (·.kind) = some .supply ∧ t.et.context.map (·.capture) = some (some 1) ∧ t.ce.ready = true ∧
    ({ r.ce with ring := t.ce.ring } : CaptureEngine).canStart = true ∧
    (delivering 0 forcing).decides (frame 6) = some forced ∧ u.et.context.map (·.kind) = some .supply ∧
    u.ce.ready = false := by
  refine ⟨⟨⟨rfl, rfl, rfl⟩, ⟨5, rfl, rfl⟩, .inr rfl, fun m h => nomatch h⟩, ?_⟩
  unfold State.BlocksOnce
  decide +kernel

/-- The interval's end while RUNNING, with no closing interval and with one; a boundary decided after E, its frame before
E and at E, and one decided at E itself; a segment at it and none. -/
theorem witness_IntervalsEndWithDeviceTime_measuring :
    let s := at_ ⟨599, 12799⟩ (measure .running (onLane .aligned))
    let v := State.reset.iu.current
    let l := lateSegment ⟨599, 12790⟩
    let o := lateSegment ⟨600, 0⟩
    let e := at_ ⟨599, 12799⟩ (l.withIu { l.iu with closing := none, current := { l.iu.current with endSec := 600 } })
    (s.Advances (.frame (frame 6)) ∧ l.Advances (.frame (frame 6)) ∧ o.Advances (.frame (frame 6)) ∧
      e.Advances (.frame (frame 6)) ∧ s.Measuring ∧ l.Measuring ∧ o.Measuring ∧ e.Measuring) ∧
    s.decides (frame 6) = none ∧ s.tb.now.next = ⟨s.iu.current.endSec, 0⟩ ∧ s.tb.now.next ≠ s.tb.now ∧
    (s.withIu { s.iu with closing := some v }).iu.closing.toList = [v] ∧ s.ra.sending = none ∧
    (after (.goodInboundFrame (frame 6)) s).iu.closing.map (·.span) = some 1 ∧
    l.decides (frame 6) = some forced ∧ o.decides (frame 6) = some forced ∧ e.decides (frame 6) = some forced ∧
    98 ≤ l.ct.position ∧ (l.cc.kept.map (·.time) ++ [l.tb.now.next])[128 - 98]? = some ⟨599, 12790⟩ ∧
    (o.cc.kept.map (·.time) ++ [o.tb.now.next])[128 - 98]? = some ⟨600, 0⟩ ∧
    (⟨599, 12790⟩ : DeviceTime).toTicks < v.endSec * 12800 ∧ v.endSec * 12800 ≤ (⟨600, 0⟩ : DeviceTime).toTicks ∧
    l.tb.now.next ≠ ⟨l.iu.current.endSec, 0⟩ ∧ l.iu.closing = some v ∧
    l.tb.now.next.toTicks < v.endSec * 12800 + 48 ∧ l.ct.endsSegment = true ∧ l.re.segment.isSome = true ∧
    (l.withCt { l.ct with segmentCount := some 3 }).ct.endsSegment = false ∧
    e.tb.now.next = ⟨e.iu.current.endSec, 0⟩ ∧ e.iu.closing = none ∧
    (after (.goodInboundFrame (frame 6)) l).iu.log.map (fun r => r.counts.l1) = [1] ∧
    (after (.goodInboundFrame (frame 6)) o).iu.log.map (fun r => r.counts.l1) = [0] ∧
    (after (.goodInboundFrame (frame 6)) o).iu.current.totals.l1.count = 1 := by
  refine ⟨⟨⟨⟨rfl, rfl, rfl⟩, ⟨5, rfl, rfl⟩⟩, ⟨⟨rfl, rfl, rfl⟩, ⟨5, rfl, rfl⟩⟩, ⟨⟨rfl, rfl, rfl⟩, ⟨5, rfl, rfl⟩⟩,
    ⟨⟨rfl, rfl, rfl⟩, ⟨5, rfl, rfl⟩⟩, .inr rfl, .inr rfl, .inr rfl, .inr rfl⟩, ?_⟩
  decide +kernel

/-- What is said of several closes: all logged, in a period that they do not complete, in one that the last completes and in
one that the first completes; and the one close of the greatest index, logged once. -/
theorem witness_MakesCloses :
    let v := State.reset.iu.current
    let g := { v with index := 4294967295 }
    let p := State.reset.withIu { State.reset.iu with periodClosed := 1006 }
    State.reset.LogsAll [v, v] ∧ State.reset.LogsAll [v, g] ∧ State.reset.iu.log.length ≤ 1008 ∧
    State.reset.iu.periodClosed + [v, g].length < State.reset.iu.period ∧
    p.iu.periodClosed + [v].length + 1 = p.iu.period ∧ [v, g] = [v] ++ g :: [] ∧
    (p.withIu { p.iu with periodClosed := 1007 }).iu.periodClosed + ([] : List Interval).length + 1 = p.iu.period ∧
    [v, g] = [] ++ v :: [g] ∧ [g].length < p.iu.period ∧
    (State.reset.withIu { State.reset.iu with lastIndexClosed := true }).iu.lastIndexClosed = true ∧
    (∀ x ∈ [g], x.index = 4294967295) ∧ State.reset.ra.intervalPushOn = true := by
  unfold State.LogsAll
  decide +kernel

/-- The interval's end by a tick in HUNT, in standby and by a frame; with and without a clearing; the period's last
close; the closing interval's last moment. -/
theorem witness_IntervalsEndWithDeviceTime :
    let s := at_ ⟨599, 12799⟩ State.reset
    let a := at_ ⟨599, 12799⟩ (onLane .aligned)
    let k := (at_ ⟨600, 47⟩ State.reset).withIu { State.reset.iu with
      closing := some State.reset.iu.current, current := { State.reset.iu.current with endSec := 1200 } }
    (s.Advances .tick ∧ (asleep s).Advances .tick ∧ a.Advances (.frame (frame 6)) ∧ s.tb.now.next ≠ s.tb.now ∧
      s.tb.now.next = ⟨s.iu.current.endSec, 0⟩ ∧ s.cc.measurement = .stopped ∧ s.cu.work ≠ .clearing ∧
      (s.withCu { s.cu with work := .clearing }).cu.work = .clearing ∧ s.iu.closing = none ∧
      (s.withIu { s.iu with period := 1 }).iu.period ≤ s.iu.periodClosed + 1) ∧
    (k.Advances .tick ∧ k.tb.now.next ≠ k.tb.now ∧ k.tb.now.next ≠ ⟨k.iu.current.endSec, 0⟩ ∧
      k.iu.closing = some State.reset.iu.current ∧
      State.reset.iu.current.endSec * 12800 + 48 ≤ k.tb.now.next.toTicks) := by
  refine ⟨⟨.inr ⟨by unfold State.Searching; decide, rfl⟩, .inl rfl, ⟨by unfold State.Aligned; decide, ⟨5, rfl, rfl⟩⟩,
    by decide, by decide, rfl, by decide, rfl, rfl, by decide⟩,
    ⟨.inr ⟨by unfold State.Searching; decide, rfl⟩, by decide, by decide, rfl, by decide⟩⟩

/-- In STOPPED: an index below the greatest and the greatest itself, not closed before; a period with two closes to come,
and with one. -/
theorem witness_IntervalsEndWithDeviceTime_record :
    let s := at_ ⟨599, 12799⟩ State.reset
    let p := s.withIu { s.iu with periodClosed := 1006 }
    let q := s.withIu { s.iu with periodClosed := 1007 }
    s.cc.measurement = .stopped ∧ s.cu.work ≠ .clearing ∧ s.iu.closing = none ∧ s.iu.lastIndexClosed = false ∧
    s.iu.current.index ≠ 4294967295 ∧
    (s.withIu { s.iu with current := { s.iu.current with index := 4294967295 } }).iu.lastIndexClosed = false ∧
    p.iu.periodClosed + 1 < p.iu.period ∧ q.iu.period ≤ q.iu.periodClosed + 1 := by decide

theorem witness_CountdownWakesThePart :
    let s := (asleep (at_ ⟨4294967294, 12799⟩ State.reset)).withTb
      { (asleep (at_ ⟨4294967294, 12799⟩ State.reset)).tb with countdown := some 1 }
    s.tb.power = .standby ∧ s.tb.countdown = some 1 ∧ s.tb.now.tick = 12799 ∧ s.tb.now.sec < 4294967295 := by decide

theorem witness_LastRelayFrameAnswersRelayed :
    let s := (State.reset.withFl { State.reset.fl with relay := [1#32] }).withCu
      { State.reset.cu with state := .executing, work := .relaying 3 }
    s.tb.power = .run ∧ s.cu.work = .relaying 3 ∧ s.fl.relay = [1#32] ∧ s.cu.stream = none ∧ s.cu.waiting = none ∧
    s.ra.responses.length < 8 := by decide

theorem witness_SentStreamMessages :
    let s := lastWord (.response .streamItem) (State.reset.withCu { State.reset.cu with
      state := .streaming, stream := some (.summaries 0) })
    let e := lastWord (.response .endMessage) (unitIn .streaming State.reset)
    (s.Searching ∧ s.ra.sending = some ⟨[7#32], .response .streamItem⟩ ∧ s.cu.stream = some (.summaries 0) ∧
      s.cu.waiting = none ∧ s.ra.responses.length < 8) ∧
    (e.Searching ∧ e.ra.sending = some ⟨[7#32], .response .endMessage⟩ ∧ e.cu.work = .idle) := by
  unfold State.Searching; decide

/-- The next message of each stream, and the first of READ EVENTS, READ INTERVALS and READ SUMMARIES (ReadsBeginAStream):
the count used up; no record left; a record behind ones that are not admitted. -/
theorem witness_SentStreamMessages_next :
    let s := State.reset.withEr { State.reset.er with records := [{ record 4 with flags := 0b10000000000 }, record 5] }
    let i := (after (.intervalEnd .tick) (at_ ⟨599, 12799⟩ State.reset))
    let o := (after (.observationPeriodEnd .tick) ((at_ ⟨599, 12799⟩ State.reset).withIu
      { State.reset.iu with period := 1 }))
    (∃ x y, s.EventsNext 1 0 .all 0 none x y) ∧
    s.er.records = [{ record 4 with flags := 0b10000000000 }] ++ record 5 :: [] ∧
    (EventFilter.unreported = .unreported ∧ hasFlag (0b10000000000#13) .reported = true) ∧
    hasFlag (record 5).flags .reported = false ∧ 1 ≤ (record 5).ident ∧ (∀ r ∈ s.er.records, r.ident < 6) ∧
    (∃ r, i.iu.log = [] ++ r :: [] ∧ 0 ≤ r.index ∧ ∀ q ∈ i.iu.log, q.index < 1) ∧
    (∃ m, o.iu.summaries[0 - o.iu.summariesGone]? = some m) ∧ o.iu.summaries.length ≤ 1 - o.iu.summariesGone := by
  refine ⟨⟨_, _, fun _ => ⟨rfl, rfl⟩, fun h => absurd h (by decide)⟩, rfl, by decide, by decide, by decide, by decide,
    ⟨_, rfl, by decide, by decide +kernel⟩, ⟨_, rfl⟩, by decide +kernel⟩

/-- A frame in CHECK with nothing waiting; with a notice queued and no cause due; with each source the one to be sent;
with two sources of one level. -/
theorem witness_SentReportsTakeEffect_grants :
    let s := onLane .check
    let r := s.withRa { s.ra with responses := [answerOf 1 .done []] }
    let n := s.withNu { s.nu with queued := true, requests := 1, enables := 1 }
    let e := s.withRa { s.ra with eventPushes := [⟨4, .closed⟩], intervalPushes := [0], blockQueue := [⟨1, 0⟩] }
    let i := s.withRa { s.ra with intervalPushes := [0], blockQueue := [⟨1, 0⟩] }
    let b := s.withRa { s.ra with blockQueue := [⟨1, 0⟩] }
    (s.tb.power = .run ∧ s.fl.lane = .check ∧ s.fl.checkCount < 3 ∧ s.Consecutive (frame 6) ∧ s.ra.sending = none) ∧
    (∀ y, ¬s.Waits y) ∧ (∀ y, ¬(s.withNu { s.nu with queued := true }).Waits y) ∧
    r.Granted .response ∧ n.Granted .notice ∧ e.Granted .event ∧ i.Granted .interval ∧ b.Granted .capture := by
  refine ⟨⟨rfl, rfl, by decide, ⟨5, rfl, rfl⟩, rfl⟩, fun y => ?_, fun y => ?_,
    .of_chooseSource (by decide) (by decide), .of_chooseSource (by decide) (by decide),
    .of_chooseSource (by decide) (by decide), .of_chooseSource (by decide) (by decide),
    .of_chooseSource (by decide) (by decide)⟩ <;> cases y <;> unfold State.Waits <;> decide

theorem witness_SentReportsTakeEffect :
    let p := lastWord (.eventPush ⟨4, .closed⟩ (some 8)) State.reset
    let n := lastWord .notice State.reset
    let r := lastWord (.captureData 1 true) (holding (capture .reading .keep) State.reset)
    (p.Searching ∧ p.ra.sending = some ⟨[7#32], .eventPush ⟨4, .closed⟩ (some 8)⟩) ∧
    (n.Searching ∧ n.ra.sending = some ⟨[7#32], .notice⟩) ∧
    (r.Searching ∧ r.ra.sending = some ⟨[7#32], .captureData 1 true⟩ ∧
      ∀ c ∈ r.ce.directory, c.ident = 1 → c.state = .reading) := by
  unfold State.Searching; decide

/-- A frame in CHECK at which a queued notice is withdrawn, with a push of a lower level waiting; and one of a lower level
than a waiting response, which is not. -/
theorem witness_SentReportsTakeEffect_withdrawn :
    let s := (onLane .check).withNu { (onLane .check).nu with queued := true }
    (s.withRa { s.ra with eventPushes := [⟨4, .closed⟩] }).Withdrawn ∧
    ¬(s.withRa { s.ra with responses := [answerOf 1 .done []] }).Withdrawn ∧ ¬(onLane .check).Withdrawn := by
  refine ⟨⟨rfl, by decide, fun y => ?_⟩, fun h => absurd (h.2.2 .response (by simp [State.Waits, State.withRa]))
    (by decide), fun h => absurd h.1 (by decide)⟩
  cases y <;> unfold State.Waits <;> decide

/-- A free Command Unit, the one hypothesis of WakeReportAndNoticeSettings and PlainAnswersAndRelay. -/
theorem witness_WakeReportAndNoticeSettings : State.reset.Free := by unfold State.Free; decide

theorem witness_PlainAnswersAndRelay : (measure .running State.reset).Free := by unfold State.Free; decide

/-- A wait shorter and as long as the new timeout, in HUNT; and on a lost lane. -/
theorem witness_SetLinkActsAtOnce :
    let s := State.reset.withFl { State.reset.fl with sinceReference := 32 }
    s.Free ∧ s.fl.lane = .hunt ∧ max 32 (min (0#24).toNat 65535) ≤ s.fl.sinceReference ∧
    ¬max 32 (min (33#24).toNat 65535) ≤ s.fl.sinceReference ∧ (onLane .lost).Free := by unfold State.Free; decide

/-- Slot selectors 1, 8, 9 and 0; channel selectors 3 and 4; ALL. -/
theorem witness_ReadBackCommandsChangeNothing :
    State.reset.Free ∧ (1#16).toNat = (0 : Fin 8).val + 1 ∧ (8#16).toNat = (7 : Fin 8).val + 1 ∧ 8 < (9#16).toNat ∧
    (0#16).toNat = 0 ∧ 9#16 ≠ 0xFFFF#16 ∧ 4#16 ≠ 1#16 ∧ 4#16 ≠ 2#16 ∧ 4#16 ≠ 3#16 ∧ 4#16 ≠ 0xFFFF#16 ∧
    3#16 ≠ 1#16 ∧ 3#16 ≠ 2#16 ∧ 3#16 ≠ 0xFFFF#16 := by unfold State.Free; decide

/-- The retention lock clear and set. -/
theorem witness_ReleaseEventsRemovesClosed :
    State.reset.Free ∧ State.reset.er.locked = false ∧
    (State.reset.withEr { State.reset.er with locked := true }).Free ∧
    (State.reset.withEr { State.reset.er with locked := true }).er.locked = true := by unfold State.Free; decide

/-- STOPPED with and without a phase role, on an aligned, a hunting and a lost lane; and SUSPENDED. -/
theorem witness_StartLeavesStopped :
    (withL1 (onLane .aligned)).Free ∧ (withL1 (onLane .hunt)).Free ∧ (withL1 (onLane .lost)).Free ∧
    (withL1 (onLane .lost)).cc.measurement = .stopped ∧ (withL1 (onLane .lost)).cc.hasPhase = true ∧
    State.reset.cc.hasPhase = false ∧ (measure .suspended State.reset).Free ∧
    (measure .suspended State.reset).cc.measurement ≠ .stopped := by unfold State.Free; decide +kernel

theorem witness_StopEndsMeasurement :
    let s := (holding (capture .filling .keep) (measure .running State.reset)).withCe
      { (holding (capture .filling .keep) (measure .running State.reset)).ce with fill := some (filling none none) }
    s.Free ∧ s.cc.measurement ≠ .stopped ∧
    (∀ c ∈ s.ce.directory, ∀ e ∈ s.ce.directory, c.state = .filling → e.state = .filling → c = e) ∧
    s.ce.filling.isSome = true ∧ State.reset.cc.measurement = .stopped := by unfold State.Free; decide

/-- STOP with a GAP event open, and with a SUPPLY event of kind INTERRUPTION open, its record stored, a stretch in progress
or not. -/
theorem witness_StopEndsMeasurement_cut :
    let x := { event .supply with stored := true, interruptionSeen := true, stretch := some 1 }
    let s := (measure .running State.reset).withEt { State.reset.et with context := some x }
    let r := s.withEr { s.er with records := [{ record 1 with closed := false }] }
    let g := opened .gap (measure .suspended State.reset)
    g.Free ∧ g.cc.measurement ≠ .stopped ∧ g.et.context = some (event .gap) ∧ r.Free ∧ r.cc.measurement ≠ .stopped ∧
    r.et.context = some x ∧ x.kind = .supply ∧ x.stored = true ∧ x.supplyKind = .interruption ∧
    ({ x with stretch := none }).supplyKind = .interruption ∧
    (after .stop r).er.records.map (·.ident) = [x.ident] := by unfold State.Free; decide +kernel

theorem witness_ClearRecordsEmptiesStores :
    let l := State.reset.withEr { State.reset.er with locked := true }
    let c := State.reset.withCu { State.reset.cu with state := .executing, work := .clearing }
    (measure .running State.reset).Free ∧ l.Free ∧ l.er.locked = true ∧ State.reset.cc.measurement = .stopped ∧
    State.reset.er.locked = false ∧ c.cu.work = .clearing ∧ c.cu.stream = none ∧ c.ra.responses.length < 8 ∧
    c.iu.deferred = [] := by unfold State.Free; decide

/-- The end of a clearing with one close deferred, and with two. -/
theorem witness_ClearRecordsEmptiesStores_deferred :
    let c := fun vs => (State.reset.withCu { State.reset.cu with state := .executing, work := .clearing }).withIu
      { State.reset.iu with deferred := vs }
    let v := State.reset.iu.current
    (c [v]).cu.work = .clearing ∧ (c [v]).cu.stream = none ∧ (c [v]).ra.responses.length < 8 ∧
    (c [v]).iu.deferred ≠ [] ∧ (c [v, v]).iu.deferred = [v] ++ [v] ∧ v.index ≠ 4294967295 ∧
    (c [v, v]).iu.periodClosed + [v, v].length < (c [v, v]).iu.period ∧
    (after .clearRecordsComplete (c [v, v])).iu.log.length = 2 ∧
    (after .clearRecordsComplete (c [v, v])).iu.counters.l1.noData = 2 ∧
    (c [v]).iu.lastIndexClosed = false ∧ (c [v]).ra.intervalPushOn = true ∧ (c [v]).ra.intervalPushes.length < 4 ∧
    (c [v]).iu.periodClosed + 1 < (c [v]).iu.period ∧
    (after .clearRecordsComplete (c [v])).ra.intervalPushes = [0] := by decide +kernel

/-- STANDBY on a lost and on a hunting lane. -/
theorem witness_StandbyOnlyInLost :
    (onLane .lost).Free ∧ (onLane .lost).fl.lane = .lost ∧ (onLane .hunt).Free ∧ (onLane .hunt).fl.lane ≠ .lost := by
  unfold State.Free; decide

/-- Slots 1 and 8; an unlisted role; a role in use; measuring. -/
theorem witness_SetChannelWritesOneSlot :
    (withL1 State.reset).Free ∧ (1#16).toNat = (0 : Fin 8).val + 1 ∧ (8#16).toNat = (7 : Fin 8).val + 1 ∧
    listed roleOfCode (some 5) = false ∧ listed roleOfCode (some 4) = true ∧ roleOfCode 1 = some .l1 ∧
    (withL1 State.reset).cc.measurement = .stopped ∧
    (∃ j : Fin 8, j ≠ 7 ∧ (withL1 State.reset).cc.table[j].role = .l1) ∧
    (∀ j : Fin 8, j ≠ 7 → (withL1 State.reset).cc.table[j].role ≠ .l2) ∧ (measure .running State.reset).Free := by
  unfold State.Free; decide +kernel

/-- No field; each of gain, offset and peak alone; with and without a pending pair. -/
theorem witness_EntryWriteClampsAndWaits :
    ({} : ChannelFields).gain = none ∧ ({} : ChannelFields).offset = none ∧ ({} : ChannelFields).role = none ∧
    ({ gain := some 0 } : ChannelFields).gain = some 0 ∧ ({ gain := some 0 } : ChannelFields).offset = none ∧
    ({ offset := some 0x800000 } : ChannelFields).gain = none ∧
    ({ offset := some 0x800000 } : ChannelFields).offset = some 0x800000 ∧
    ({ peak := some 300 } : ChannelFields).peak = some 300 ∧ ({ role := some 4 } : ChannelFields).role = some 4 ∧
    roleOfCode 4 = some .ne ∧ ({ annotation := some 2 } : ChannelFields).annotation = some 2 ∧
    annotationOfCode 2 = some .peak ∧ ChannelEntry.powerOn.awaiting = none ∧
    ({ ChannelEntry.powerOn with awaiting := some ⟨1, 2⟩ }).awaiting = some ⟨1, 2⟩ := by decide

theorem witness_SetChannelBroadcast :
    State.reset.Free ∧ (0#16 ≠ 0xFFFF#16) ∧ (0#16).toNat = 0 ∧ 8 < (9#16).toNat ∧
    ({ role := some 1 } : ChannelFields).role.isSome = true ∧ listed annotationOfCode (some 3) = false ∧
    listed annotationOfCode (some 2) = true := by unfold State.Free; decide

/-- The set not active, an unlisted nominal frequency, set A named for writing, an order broken and an order kept. -/
theorem witness_SetProfileWritesTheSet :
    State.reset.Free ∧ phasesOfSelector 4 = none ∧ phasesOfSelector 0xFFFF = some [.l1, .l2, .l3] ∧
    listed nominalOfCode (some 51) = false ∧ State.reset.ps.write ≠ State.reset.ps.active ∧
    (State.reset.withPs { State.reset.ps with write := .a }).ps.write = State.reset.ps.active ∧
    ((State.reset.ps.get .b).write { dipStart := some 920 } [.l1]).ordered = false ∧
    ((State.reset.ps.get .b).write { dipStart := some 919 } [.l1]).ordered = true := by unfold State.Free; decide

/-- Values at and past the ends of their ranges, for a channel selected and one that is not. -/
theorem witness_SetProfileWritesTheSet_clamps :
    let f : ProfileFields := { nominal := some 60, mask := some 0xFFFFFA, unom := some 4999, dipEnd := some 2001 }
    phasesOfSelector 1 = some [.l1] ∧ Phase.l1 ∈ [Phase.l1] ∧ Phase.l2 ∉ [Phase.l1] ∧ f.nominal = some 60#24 ∧
    f.mask = some 0xFFFFFA ∧ f.unom = some 4999 ∧ max 5000 (min (4999#24).toNat 60000) = 5000 ∧
    max 5000 (min (60001#24).toNat 60000) = 60000 ∧ f.dipEnd = some 2001 ∧ max 0 (min (2001#24).toNat 2000) = 2000 ∧
    f.neLimit = none := by decide

theorem witness_SetPointersMove :
    State.reset.Free ∧ (1#16).toNat = SetName.a.code ∧ (2#16).toNat = SetName.b.code ∧
    SetName.a = State.reset.ps.active ∧ SetName.b ≠ State.reset.ps.active ∧ 0#16 ≠ 1#16 ∧ 0#16 ≠ 2#16 := by
  unfold State.Free; decide

/-- Cells 39 and 40; b2 one below b1 and at b1. -/
theorem witness_SetClassesKeepsCounts :
    State.reset.Free ∧ cellsExist { cells := [{ cell := 40 }] } = false ∧
    (cellsExist { b2 := some 799, cells := [{ cell := 39 }] } &&
      actionsListed { b2 := some 799, cells := [{ cell := 39 }] } &&
      noTwice (cellNumbers { b2 := some 799, cells := [{ cell := 39 }] }) &&
      (State.reset.cm.bounds.write { b2 := some 799, cells := [{ cell := 39 }] }).ordered) = true ∧
    (State.reset.cm.bounds.write { b2 := some 800 }).ordered = false := by unfold State.Free; decide

/-- A bound past its range, a duration bound at the end of its range, and bounds that are absent. -/
theorem witness_SetClassesKeepsCounts_bounds :
    let f : ClassFields := { s2 := some 2001, d4 := some 0xFFFFFFFF }
    f.s2 = some 2001 ∧ max 0 (min (2001#24).toNat 2000) = 2000 ∧ f.d4 = some 0xFFFFFFFF ∧ f.b1 = none ∧ f.d1 = none ∧
    State.reset.cm.bounds.ordered = true ∧ (State.reset.cm.bounds.write f).ordered = true := by decide

/-- The retention lock clear and set: CLEAR COUNTS and RETAIN. -/
theorem witness_ClearCountsUnlessLocked :
    State.reset.Free ∧ State.reset.er.locked = false ∧
    (State.reset.withEr { State.reset.er with locked := true }).Free ∧
    (State.reset.withEr { State.reset.er with locked := true }).er.locked = true := by unfold State.Free; decide

theorem witness_ReadsBeginAStream :
    State.reset.Free ∧ listed filterOfCode (some 2) = false ∧ listed filterOfCode (some 1) = true := by
  unfold State.Free; decide

/-- An unlisted mode; T at 2F and one below it. -/
theorem witness_SetCaptureChecksTheDuty :
    State.reset.Free ∧ listed modeOfCode (some 2) = false ∧ listed modeOfCode (some 1) = true ∧
    2 * clampedOr 1 64 (some 4) 4 ≤ clampedOr 1 1024 (some 8) 16 ∧
    ¬2 * clampedOr 1 64 (some 4) 4 ≤ clampedOr 1 1024 (some 7) 16 := by unfold State.Free; decide

/-- AUTO after power-on; MANUAL, not ready, ready, with a capture filling, and without room. -/
theorem witness_TriggerStartsManualCapture :
    let m := State.reset.withCe { State.reset.ce with settings := { State.reset.ce.settings with mode := .manual } }
    let r := m.withCe { m.ce with ready := true }
    let f := holding (capture .filling .keep) r
    let n := r.withCe { r.ce with ring := [⟨[0], ⟨0, 0⟩, true⟩], free := [] }
    State.reset.Free ∧ State.reset.ce.settings.mode = .auto ∧ m.Free ∧ m.ce.settings.mode = .manual ∧
    m.ce.ready = false ∧ r.ce.ready = true ∧ f.ce.filling.isSome = true ∧ r.ce.filling.isSome = false ∧
    n.ce.filling.isSome = false ∧ n.ce.canStart = false ∧ r.ce.canStart = true ∧ r.BlocksOnce := by
  unfold State.Free State.BlocksOnce; decide +kernel

/-- TRIGGER with two complete half cycles in the ring, W at 1: the newer one and the half cycle in progress are copied,
into two blocks where the times have a gap; with no block free the oldest settled KEEP capture gives them. -/
theorem witness_TriggerStartsManualCapture_pre :
    let m := State.reset.withCe { State.reset.ce with
      ready := true, settings := { State.reset.ce.settings with mode := .manual, pre := 1 }
      ring := [⟨[1], ⟨0, 1⟩, true⟩, ⟨[2], ⟨0, 2⟩, true⟩, ⟨[3], ⟨0, 3⟩, false⟩, ⟨[4], ⟨0, 9⟩, true⟩, ⟨[5], ⟨0, 10⟩, false⟩] }
    let e := { capture .settled .keep with blocks := List.range 128 }
    let f := m.withCe { m.ce with directory := [e], free := [] }
    let t := after .trigger m
    let u := after .trigger f
    m.Free ∧ m.ce.filling.isSome = false ∧ m.ce.canStart = true ∧ m.BlocksOnce ∧ f.ce.canStart = true ∧ f.BlocksOnce ∧
    t.ce.directory.map (fun c => (c.preHeld, c.blocks)) = [(1, [0, 1])] ∧
    (t.ce.block 0).entries = [[2], [3]] ∧ (t.ce.block 0).first = ⟨0, 2⟩ ∧
    (t.ce.block 1).entries = [[4], [5]] ∧ (t.ce.block 1).first = ⟨0, 9⟩ ∧ (t.ce.block 1).kind = .pre ∧
    u.ce.directory.map (·.blocks) = [[0, 1]] ∧ u.ce.free = (List.range 128).drop 2 ∧
    u.nu.requests.getLsbD Cause.captureEvicted.bit = true := by
  unfold State.Free State.BlocksOnce; decide +kernel

/-- No capture; one FILLING; one SETTLED read at its last block and past it; a PRIORITY one under the lock. -/
theorem witness_CaptureReadAndRelease :
    let h := holding (capture .settled .keep) State.reset
    let p := (holding (capture .settled .priority) State.reset).withEr { State.reset.er with locked := true }
    State.reset.Free ∧ State.reset.ce.find (1#16).toNat = none ∧ h.Free ∧
    h.ce.find (1#16).toNat = some (capture .settled .keep) ∧ h.ce.reading = false ∧
    (capture .settled .keep).blocks.length ≤ (1#24).toNat ∧ (0#24).toNat < (capture .settled .keep).blocks.length ∧
    (holding (capture .filling .keep) State.reset).ce.find (1#16).toNat = some (capture .filling .keep) ∧ p.Free ∧
    p.ce.find (1#16).toNat = some (capture .settled .priority) ∧ p.er.locked = true := by
  unfold State.Free; decide

/-- No field; a field with the length as it is; a change of length. -/
theorem witness_SetObservationBeginsPeriod :
    State.reset.Free ∧ someObservation {} = false ∧ someObservation { length := some 659 } = true ∧
    lengthOr (some 659) State.reset.iu.length = State.reset.iu.length ∧
    lengthOr (some 599) State.reset.iu.length ≠ State.reset.iu.length := by unfold State.Free; decide

/-- A change of length with a closing interval that completes its period: both records are logged, the second with
TIME_STEP; 59 becomes 60, 1,000 becomes 900. -/
theorem witness_SetObservationBeginsPeriod_closes :
    let v := State.reset.iu.current
    let s := State.reset.withIu { State.reset.iu with
      closing := some v, current := { v with index := 1, span := 5 }, periodClosed := 1007 }
    let t := after (.setObservation { length := some 1000 }) s
    s.Free ∧ s.iu.closing.toList = [v] ∧ s.iu.periodClosed + 1 = s.iu.period ∧ s.LogsAll [v, { v with index := 1 }] ∧
    t.iu.length = 900 ∧ t.iu.summaries.length = 1 ∧ t.iu.periodClosed = 0 ∧
    t.iu.log.map (fun r => (r.index, r.span.tick, r.flags)) = [(0, 0, 0b001100), (1, 5, 0b011100)] ∧
    t.ra.intervalPushes = [0, 1] ∧
    (after (.setObservation { length := some 59 }) s).iu.length = 60 := by
  unfold State.Free State.LogsAll; decide +kernel

theorem witness_SetTimeStepsTheClock :
    State.reset.Free ∧ State.reset.tb.unset = true ∧ (State.reset.withTb { State.reset.tb with unset := false }).Free ∧
    State.reset.er.nextIdent < 4294967295 := by unfold State.Free; decide

/-- SET TIME with a closing interval: two closes, both logged and counted. -/
theorem witness_SetTimeStepsTheClock_closes :
    let v := State.reset.iu.current
    let s := State.reset.withIu { State.reset.iu with closing := some v, current := { v with index := 1, span := 5 } }
    let t := after (.setTime { seconds := some 10000 }) s
    s.Free ∧ s.LogsAll [v, { v with index := 1 }] ∧ s.iu.log.length ≤ 1008 ∧ s.iu.periodClosed + 2 < s.iu.period ∧
    t.iu.periodClosed = 2 ∧ t.iu.log.map (·.index) = [0, 1] ∧ t.iu.current.index = 2 ∧
    t.ra.intervalPushes = [0, 1] := by unfold State.Free State.LogsAll; decide +kernel

/-- At 4Q one below N and at N. -/
theorem witness_ExactTestRoundsTheRoot : 1 ≤ 4 ∧ 4 * 0 < 4 ∧ 4 ≤ 4 * 1 := by decide

theorem witness_ClassRowsAndColumns : State.reset.cm.bounds.ordered = true := by decide

/-- The laws hold after power-on, and a state of theirs steps. -/
theorem witness_StepKeepsTablesAndSets :
    State.reset.RolesOnce ∧ State.reset.TableInRange ∧ State.reset.SetsOrdered ∧ State.reset.LevelsDerived ∧
    State.reset.SwitchToOther ∧ State.reset.CountsHeld ∧ State.reset.Bounded ∧ State.reset.LinkLaw ∧
    State.reset.TimeInRange := by
  refine ⟨?_, ?_, ?_, ?_, ?_, ?_, ?_, ?_, ?_⟩
  · unfold State.RolesOnce; decide +kernel
  · intro i
    have h : State.reset.cc.table[i] = ChannelEntry.powerOn := by revert i; decide +kernel
    rw [h]
    refine ⟨by decide, by decide, by decide, by decide, by decide, by decide, ?_⟩
    intro p hp
    cases hp
  · unfold State.SetsOrdered; decide
  · unfold State.LevelsDerived; decide
  · unfold State.SwitchToOther; decide
  · unfold State.CountsHeld; decide +kernel
  · unfold State.Bounded; decide
  · unfold State.LinkLaw; decide
  · unfold State.TimeInRange DeviceTime.InRange; decide

theorem witness_StepKeepsCountsAndBounds : State.reset.CountsHeld ∧ State.reset.CountersSum ∧ State.reset.Bounded := by
  refine ⟨by unfold State.CountsHeld; decide +kernel, ?_, by unfold State.Bounded; decide⟩
  intro p; cases p <;> rfl

theorem witness_StepKeepsLinkLaw : State.reset.LinkLaw ∧ State.reset.ReferenceFresh ∧ State.reset.TimeInRange := by
  refine ⟨by unfold State.LinkLaw; decide, by unfold State.ReferenceFresh; decide, ?_⟩
  unfold State.TimeInRange DeviceTime.InRange; decide

theorem witness_StepKeepsStoppedQuiet : State.reset.StoppedQuiet := by unfold State.StoppedQuiet; decide

theorem witness_StepKeepsBlocksOnce : State.reset.BlocksOnce := by
  refine ⟨?_, by decide, by decide⟩
  simp [State.allBlocks, State.reset, CaptureEngine.powerOn]

/-- Every step answers a next state, so that the hypothesis of a law about steps is met from any state. -/
theorem witness_step : ∃ t, step (State.reset.withPending [.stop]) = .next t := ⟨_, rfl⟩

theorem witness_LockKeepsRecordsAndCounts :
    let s := State.reset.withEr { State.reset.er with locked := true, records := [record 1] }
    Instr.clearCounts ≠ .powerOn ∧ s.er.locked = true ∧ ∃ t, exec .clearCounts s = .next t :=
  ⟨by decide, rfl, _, rfl⟩

theorem witness_OutboundFramesAreNumbered :
    Instr.localOscillatorTick ≠ .powerOn ∧ (∃ t, exec .localOscillatorTick State.reset = .next t) ∧
    State.reset.LinkLaw := ⟨by decide, ⟨_, rfl⟩, by unfold State.LinkLaw; decide⟩

theorem witness_StandbySendsNothing :
    Instr.localOscillatorTick.wellFormed = true ∧ (asleep State.reset).tb.power = .standby ∧
    ∃ t, exec .localOscillatorTick (asleep State.reset) = .next t := ⟨rfl, rfl, _, rfl⟩

theorem witness_ArrivalsKeepSettings :
    BringsNoCommand .localOscillatorTick ∧ BringsNoCommand (.goodInboundFrame (frame 6)) ∧
    ∃ t, exec .localOscillatorTick State.reset = .next t := by
  refine ⟨⟨rfl, by decide, by intro _ _ h; cases h⟩, ⟨rfl, by decide, by intro _ _ h; cases h⟩, _, rfl⟩

end Sys2Proof.Tests
end

section
/-! Cycle tracking: what a frame and a boundary do to the tracker, that notes and causes outlast a boundary, the step of
a deciding frame, and the statement on forced boundaries and accepted crossings. -/

namespace Sys2Proof.Machine

/-! ## The tracker's examination of a frame (R19 to R22) -/

theorem beyondBand_positive_iff (h : Nat) (x : Int) : beyondBand h x = some .positive ↔ (h : Int) < x := by
  unfold beyondBand; split
  · simp [*]
  · split <;> simp [*]

theorem beyondBand_negative_iff (h : Nat) (x : Int) : beyondBand h x = some .negative ↔ x < -(h : Int) := by
  unfold beyondBand; split
  · simp; omega
  · split <;> simp [*]

/-- An examination changes the polarity and the candidate alone. -/
theorem Tracker.examine_fst (t : Tracker) (h : Nat) (x : Int) :
    ∃ p c, (t.examine h x).1 = { t with polarity := p, candidate := c } := by
  have acquire : ∃ p c, t.acquirePolarity h x = { t with polarity := p, candidate := c } := by
    unfold Tracker.acquirePolarity; (repeat' split) <;> exact ⟨_, _, rfl⟩
  have seek : ∀ pol, ∃ p c, t.seek pol x = { t with polarity := p, candidate := c } := by
    intro pol; unfold Tracker.seek; split <;> exact ⟨_, _, rfl⟩
  unfold Tracker.examine
  split
  · exact acquire
  · split
    · split
      · split <;> exact ⟨_, _, rfl⟩
      · exact seek _
    · exact seek _
    · exact seek _

/-- A crossing is confirmed by the third debounce sample beyond the band on the new side: the polarity turns and the
candidate is taken (R20, R21). -/
theorem Tracker.examine_confirms {t : Tracker} {h : Nat} {x : Int} {c : Nat} (hc : (t.examine h x).2 = some c) :
    ∃ side n, t.polarity = some side ∧ t.candidate = .crossing c n ∧ 2 ≤ n ∧
      beyondBand h x = some side.opposite ∧
      (t.examine h x).1 = { t with polarity := some side.opposite, candidate := .absent } := by
  unfold Tracker.examine at hc ⊢
  cases hp : t.polarity with
  | none => simp [hp] at hc
  | some side =>
    cases hk : t.candidate with
    | absent => simp [hp, hk] at hc
    | counting _ _ => simp [hp, hk] at hc
    | crossing k n =>
      by_cases hb : beyondBand h x = some side.opposite
      · by_cases hn : 3 ≤ n + 1
        · simp only [hp, hk, hb, hn, if_true, Option.some.injEq] at hc
          subst hc
          exact ⟨side, n, rfl, rfl, by omega, hb, by simp [hb, hn]⟩
        · simp [hp, hk, hb, hn] at hc
      · simp [hp, hk, hb] at hc

/-- A force, where there is one (R22). -/
theorem Tracker.force_eq_some {t : Tracker} {nominal : Nat} {d : Decision} (h : t.force nominal = some d) :
    143 ≤ t.position ∧ d = ⟨.synthetic, t.forcedPlace nominal, t.position⟩ := by
  unfold Tracker.force at h
  split at h
  · next hf => exact ⟨hf.1, (Option.some.inj h).symm⟩
  · cases h

/-- The place of a forced boundary reads the tracker's state, early mark and last good half period alone. -/
theorem Tracker.forcedPlace_eq (t : Tracker) (nominal : Nat) :
    t.forcedPlace nominal =
      if t.state = .locked then t.lastGood
      else if t.early then 98
      else if t.state = .acquire then nominal else t.lastGood := by
  unfold Tracker.forcedPlace; cases t.state <;> simp [Config.acceptFrom]

/-- What a frame that decides a boundary has done to the tracker: it decided an accepted crossing, or a force. -/
theorem Tracker.frame_cases {t : Tracker} {h : Nat} {x : Option Int} {nominal : Nat} {d : Decision}
    (hd : (t.frame h x nominal).2 = some d) :
    (∃ v, x = some v ∧ (t.examine h v).2 = some d.frame ∧ 98 ≤ d.frame ∧ d.kind = .accepted ∧
      d.deciding = t.position ∧ (t.frame h x nominal).1 = (t.examine h v).1) ∨
    (d.kind = .synthetic ∧ (t.frame h x nominal).1.force nominal = some d ∧
      ∃ p c e, (t.frame h x nominal).1 = { t with polarity := p, candidate := c, early := e } ∧
        (e = t.early ∨ (e = true ∧ ∃ k n, t.candidate = .crossing k n ∧ k < 98))) := by
  have forced : ∀ {u : Tracker}, u.force nominal = some d → d.kind = .synthetic := by
    intro u hu; rw [(Tracker.force_eq_some hu).2]
  unfold Tracker.frame at hd ⊢
  cases x with
  | none => exact .inr ⟨forced hd, hd, _, _, _, rfl, .inl rfl⟩
  | some v =>
    obtain ⟨p, c, he⟩ := t.examine_fst h v
    cases hk : (t.examine h v).2 with
    | none =>
      simp only [hk] at hd ⊢
      exact .inr ⟨forced hd, hd, p, c, t.early, he, .inl rfl⟩
    | some k =>
      simp only [hk] at hd ⊢
      by_cases hl : k < Config.acceptFrom
      · simp only [hl, if_true] at hd ⊢
        obtain ⟨side, n, -, hcand, -⟩ := Tracker.examine_confirms hk
        exact .inr ⟨forced hd, hd, p, c, true, by rw [he], .inr ⟨rfl, k, n, hcand, hl⟩⟩
      · simp only [hl, if_false, Option.some.injEq] at hd ⊢
        subst hd
        exact .inl ⟨v, rfl, hk, Nat.le_of_not_lt hl, rfl, rfl, rfl⟩

/-- A force leaves the tracker but for polarity, candidate and early mark, and its place follows from the early mark
that the frame leaves: the tracker's own, or one set by confirming an early candidate (R21, R22). -/
theorem Tracker.frame_synthetic {t : Tracker} {h : Nat} {x : Option Int} {nominal : Nat} {d : Decision}
    (hd : (t.frame h x nominal).2 = some d) (hk : d.kind = .synthetic) :
    ∃ p c e, (t.frame h x nominal).1 = { t with polarity := p, candidate := c, early := e } ∧
      (e = t.early ∨ (e = true ∧ ∃ k n, t.candidate = .crossing k n ∧ k < 98)) ∧
      143 ≤ t.position ∧ d.deciding = t.position ∧
      d.frame = if t.state = .locked then t.lastGood else if e then 98
        else if t.state = .acquire then nominal else t.lastGood := by
  rcases Tracker.frame_cases hd with ⟨_, _, _, _, hacc, _⟩ | ⟨-, hforce, p, c, e, hframe, hearly⟩
  · rw [hk] at hacc; cases hacc
  · rw [hframe] at hforce
    obtain ⟨hlate, hplace⟩ := Tracker.force_eq_some hforce
    rw [Tracker.forcedPlace_eq] at hplace
    exact ⟨p, c, e, hframe, hearly, hlate, by rw [hplace], by rw [hplace]⟩

/-- An accepted crossing: the candidate at 98 or later whose third debounce sample lies beyond the band on the new side;
the polarity turns and the candidate is taken (R20, R21). -/
theorem Tracker.frame_accepted {t : Tracker} {h : Nat} {x : Option Int} {nominal : Nat} {d : Decision}
    (hd : (t.frame h x nominal).2 = some d) (hk : d.kind = .accepted) :
    ∃ v side n, x = some v ∧ t.polarity = some side ∧ t.candidate = .crossing d.frame n ∧ 2 ≤ n ∧
      beyondBand h v = some side.opposite ∧ 98 ≤ d.frame ∧ d.deciding = t.position ∧
      (t.frame h x nominal).1 = { t with polarity := some side.opposite, candidate := .absent } := by
  rcases Tracker.frame_cases hd with ⟨v, hx, hconf, hfrom, -, hpos, hframe⟩ | ⟨hsyn, _⟩
  · obtain ⟨side, n, hp, hcand, hn, hb, he⟩ := Tracker.examine_confirms hconf
    exact ⟨v, side, n, hx, hp, hcand, hn, hb, hfrom, hpos, hframe.trans he⟩
  · rw [hk] at hsyn; cases hsyn

/-- The reference's sample of a frame, and the half-width of its band (R8, R19). -/
theorem State.sample_eq_some {s : State} {f : FrameContent} {b : Bool} {v : Int}
    (h : s.ct.sample (s.cc.record f b) = some v) :
    ∃ p x, s.ct.reference = some p ∧ s.cc.scale f p.channel = some x ∧ x.value = v ∧
      s.bandOf = (s.ps.activeSet.phase.get p).unom / 16 := by
  unfold Tracker.sample at h
  cases hr : s.ct.reference with
  | none => simp [hr] at h
  | some p =>
    have hget : (s.cc.record f b).values.get p.channel = s.cc.scale f p.channel := by cases p <;> rfl
    simp only [hr, hget, Option.map_eq_some_iff] at h
    obtain ⟨x, hx, hv⟩ := h
    have hband : s.bandOf = bandHalf (s.ps.unoms.get p) := by simp [State.bandOf, hr]
    exact ⟨p, x, rfl, hx, hv, hband.trans (by cases p <;> rfl)⟩

/-! ## The tracker after a boundary (R18, R23, R27, R28, R30) -/

/-- The choice of a reference changes the reference, the polarity and the candidate alone (R18). -/
theorem Tracker.choose_eq (t : Tracker) (r : Option Phase) :
    t.choose r =
      { t with reference := r
               polarity := if r.isSome ∧ r ≠ t.reference then none else t.polarity
               candidate := if r.isSome ∧ r ≠ t.reference then .absent else t.candidate } := by
  unfold Tracker.choose; split <;> rfl

/-- The first boundary opens the first segment (R30). -/
theorem Tracker.countSegment_first {t : Tracker} (h : t.segmentCount = none) (d : Decision) :
    t.countSegment d =
      { t with segmentCount := some 0, segmentFrames := 0, segmentAccepted := d.kind == .accepted } := by
  simp [Tracker.countSegment, Tracker.segmentIndex, h]

/-- A boundary within a segment is counted in it (R30, R31). -/
theorem Tracker.countSegment_within {t : Tracker} {n : Nat} (h : t.segmentCount = some n)
    (hn : n + 1 < 2 * t.cycles) (d : Decision) :
    t.countSegment d =
      { t with segmentCount := some (n + 1), segmentFrames := t.segmentFrames + d.frame,
               segmentAccepted := t.segmentAccepted && d.kind == .accepted } := by
  simp [Tracker.countSegment, Tracker.segmentIndex, Tracker.segmentHalves, h, Nat.not_le.mpr hn]

/-- The tracker after a boundary, item by item; the segment's items are those of its count. -/
theorem Tracker.boundary_eq (t : Tracker) (d : Decision) (r : Option Phase) :
    t.boundary d r =
      { state := t.nextState d.kind r
        reference := r
        polarity := if r.isSome ∧ r ≠ t.reference then none else t.polarity
        candidate := if r.isSome ∧ r ≠ t.reference then .absent else t.candidate.carry d.frame
        position := d.deciding - d.frame + 1
        early := false
        acceptedRun := t.nextRun d.kind
        lastGood := t.nextLastGood d
        segmentCount := (t.countSegment d).segmentCount
        segmentFrames := (t.countSegment d).segmentFrames
        segmentAccepted := (t.countSegment d).segmentAccepted
        cycles := t.cycles
        lateTimes := [] } := by
  simp only [Tracker.boundary, Tracker.choose_eq, Tracker.beginHalf, Decision.lag, Tracker.countSegment,
    Tracker.segmentIndex, Tracker.segmentHalves]
  cases t.segmentCount with
  | none => rfl
  | some n => by_cases h : 2 * t.cycles ≤ n + 1 <;> simp [h]

/-! ## The choice of the reference (R18) -/

theorem State.mayRefer_iff (s : State) (p : Phase) : s.mayRefer p = true ↔ s.MeetsReference p := by
  unfold State.mayRefer State.MeetsReference
  cases s.re.refreshed.get p <;> simp

/-- The reference is the first phase channel that meets the conditions. -/
theorem State.chooseReference_iff (s : State) :
    (s.chooseReference = some .l1 ↔ s.MeetsReference .l1) ∧
    (s.chooseReference = some .l2 ↔ ¬s.MeetsReference .l1 ∧ s.MeetsReference .l2) ∧
    (s.chooseReference = some .l3 ↔ ¬s.MeetsReference .l1 ∧ ¬s.MeetsReference .l2 ∧ s.MeetsReference .l3) := by
  simp only [← State.mayRefer_iff, State.chooseReference, phases, List.find?_cons, List.find?_nil]
  cases s.mayRefer .l1 <;> cases s.mayRefer .l2 <;> cases s.mayRefer .l3 <;> simp

/-- The choice reads the Channel Table, the refreshed values and the Profile Store alone. -/
theorem State.chooseReference_congr {s t : State} (hc : t.cc.table = s.cc.table) (hr : t.re = s.re) (hp : t.ps = s.ps) :
    t.chooseReference = s.chooseReference := by
  have h : t.mayRefer = s.mayRefer := by
    funext p
    simp only [State.mayRefer, State.watched, Conditioner.present, Conditioner.slotOf, hc, hr, hp]
  simp only [State.chooseReference, h]

/-! ## Notes and causes are kept through a boundary

No operation of a boundary takes a noted row or a raised cause away again. One rule per operation, each of the form
"what s has, the state t has after it": the proof for an operation is the chain of its own steps. -/

/-- Every row noted in s is noted in t, and every cause raised in s is raised in t. -/
def State.Raises (s t : State) : Prop :=
  (∀ o ∈ s.out.occurred, o ∈ t.out.occurred) ∧ ∀ c, s.requested c → t.requested c

namespace State.Raises

theorem refl (s : State) : s.Raises s := ⟨fun _ h => h, fun _ h => h⟩

variable {s t : State} (h : s.Raises t)
include h

/-! ### Updates, notes and causes -/

theorem withCc (x : Conditioner) : s.Raises (t.withCc x) := h
theorem withCt (x : Tracker) : s.Raises (t.withCt x) := h
theorem withPs (x : ProfileStore) : s.Raises (t.withPs x) := h
theorem withEt (x : EventTracker) : s.Raises (t.withEt x) := h
theorem withCm (x : ClassMatrix) : s.Raises (t.withCm x) := h
theorem withEr (x : EventRegister) : s.Raises (t.withEr x) := h
theorem withCe (x : CaptureEngine) : s.Raises (t.withCe x) := h
theorem withIu (x : IntervalUnit) : s.Raises (t.withIu x) := h
theorem withRa (x : ReportArbiter) : s.Raises (t.withRa x) := h

theorem note (o : Occurrence) : s.Raises (t.note o) :=
  ⟨fun p hp => by simp [h.1 p hp], h.2⟩

theorem raise (c : Cause) : s.Raises (t.raise c) :=
  ⟨h.1, fun d hd => t.requested_of_raise c d (h.2 d hd)⟩

theorem raiseIf (c : Cause) (b : Bool) : s.Raises (t.raiseIf c b) := by
  cases b
  · exact h
  · exact h.raise c

/-! ### Captures (Machine/Capture.lean) -/

theorem flagEvent (f : EventFlag) (c : Bool) : s.Raises (t.flagEvent f c) := h.withEt _

theorem nameCapture (event capture : Nat) : s.Raises (t.nameCapture event capture) := (h.withEt _).withEr _

theorem removeCapture (x : Capture) : s.Raises (t.removeCapture x) := ((h.withCe _).withEr _).withEt _

theorem evictOldest : s.Raises t.evictOldest := by
  unfold State.evictOldest; split
  · exact h
  · exact (h.removeCapture _).raise _

theorem evictUntil (n fuel : Nat) : s.Raises (State.evictUntil n fuel t) := by
  induction fuel generalizing t with
  | zero => exact h
  | succ k ih =>
    unfold State.evictUntil; split
    · exact h
    · exact ih h.evictOldest

theorem startCapture (origin : CaptureOrigin) (joined : List Nat) (time : DeviceTime) :
    s.Raises (t.startCapture origin joined time) := (h.evictUntil _ _).withCe _

theorem eventCapture (ident : Nat) (time : DeviceTime) : s.Raises (t.eventCapture ident time) := by
  unfold State.eventCapture; split
  · exact (h.startCapture _ _ _).nameCapture _ _
  · exact h.flagEvent _ _

theorem joinCapture (c : Capture) (ident : Nat) : s.Raises (t.joinCapture c ident) := (h.withCe _).nameCapture _ _

theorem offerCapture (ident : Nat) (time : DeviceTime) : s.Raises (t.offerCapture ident time) := by
  unfold State.offerCapture; split
  · exact h
  · split
    · split
      · split
        · exact h.flagEvent _ _
        · exact h.joinCapture _ _
      · exact h.flagEvent _ _
    · exact h.eventCapture _ _

theorem endFilling (c : Capture) (truncated settle : Bool) : s.Raises (t.endFilling c truncated settle) :=
  ((h.withCe _).flagEvent _ _).raiseIf _ _

theorem stopFilling (truncated settle : Bool) : s.Raises (t.stopFilling truncated settle) := by
  unfold State.stopFilling; split
  · exact h
  · exact h.endFilling _ _ _

theorem fillBoundary : s.Raises t.fillBoundary := by
  unfold State.fillBoundary; split
  · exact h
  · split
    · exact (h.stopFilling _ _).note _
    · split
      · exact (h.stopFilling _ _).note _
      · dsimp only
        split
        · exact (h.withCe _).note _
        · exact h.withCe _

theorem captureBoundary (lag : Nat) : s.Raises (t.captureBoundary lag) := (h.withCe _).fillBoundary

theorem discardCapture (c : Capture) : s.Raises (t.discardCapture c) := by
  unfold State.discardCapture; split
  · exact h.withCe _
  · exact h.removeCapture _
  · exact (h.withCe _).removeCapture _

theorem applyAction (ident : Nat) (action : CaptureAction) (atBoundary : Bool) :
    s.Raises (t.applyAction ident action atBoundary) := by
  unfold State.applyAction; split
  · exact h
  · dsimp only
    split
    · exact (h.withCe _).discardCapture _
    · exact h.withCe _

/-! ### Events (Machine/Events.lean) -/

theorem offerEventPush (ident : Nat) (phase : PushPhase) : s.Raises (t.offerEventPush ident phase) := by
  unfold State.offerEventPush; split
  · split
    · exact h.withRa _
    · exact h.raise _
  · exact h

theorem announceClose (ident : Nat) : s.Raises (t.announceClose ident) := (h.raise _).offerEventPush _ _

theorem announceOpen (ident : Nat) : s.Raises (t.announceOpen ident) := (h.raise _).offerEventPush _ _

theorem storeRecord (x : EventRecord) (mayStore : Bool) : s.Raises (t.storeRecord x mayStore) := by
  unfold State.storeRecord; split
  · exact (h.withEr _).raiseIf _ _
  · exact h

theorem enterContext (x : EventContext) : s.Raises (t.enterContext x) :=
  ((h.withEr _).withEt _).storeRecord _ _

theorem openSupply (rms : PerPhase (Option Refreshed)) (start : DeviceTime) (lag : Nat) :
    s.Raises (t.openSupply rms start lag) := ((h.enterContext _).offerCapture _ _).announceOpen _

theorem handOnSupply (x : EventContext) (duration : Nat) (atBoundary : Bool) :
    s.Raises (t.handOnSupply x duration atBoundary) := by
  unfold State.handOnSupply
  dsimp only
  split
  · exact ((((h.withCm _).withEr _).applyAction _ _ _).withEt _).announceClose _
  · exact (((h.withCm _).applyAction _ _ _).withEt _).announceClose _

theorem handOnGap (x : EventContext) (duration : Nat) : s.Raises (t.handOnGap x duration) := by
  unfold State.handOnGap
  dsimp only
  split
  · exact ((h.withEr _).withEt _).announceClose _
  · exact (h.withEt _).announceClose _

theorem closeGap (lag : Nat) : s.Raises (t.closeGap lag) := by
  unfold State.closeGap; split
  · exact h
  · split
    · exact h
    · exact h.handOnGap _ _

theorem actOnDetectors (rms : PerPhase (Option Refreshed)) (start : DeviceTime) (lag : Nat) :
    s.Raises (t.actOnDetectors rms start lag) := by
  unfold State.actOnDetectors; split
  · split
    · exact h
    · exact h.openSupply _ _ _
  · dsimp only
    split
    · exact (h.withEt _).handOnSupply _ _ _
    · exact h.withEt _

theorem eventsAtBoundary (r : Option (PerPhase (Option Refreshed))) (start : DeviceTime) (lag : Nat) :
    s.Raises (t.eventsAtBoundary r start lag) := by
  unfold State.eventsAtBoundary; split
  · exact h
  · exact ((h.closeGap _).withEt _).actOnDetectors _ _ _

/-! ### Intervals (Machine/Intervals.lean) -/

theorem offerIntervalPush (index : Nat) : s.Raises (t.offerIntervalPush index) := by
  unfold State.offerIntervalPush; split
  · split
    · exact h.withRa _
    · exact h.raise _
  · exact h

theorem logRecord (v : Interval) (r : IntervalRecord) : s.Raises (t.logRecord v r) := by
  unfold State.logRecord; split
  · exact h.withIu _
  · exact h

theorem pushRecord (logged : Bool) (index : Nat) : s.Raises (t.pushRecord logged index) := by
  unfold State.pushRecord; split
  · exact h.offerIntervalPush _
  · exact h

theorem testPeriod (index : Nat) : s.Raises (t.testPeriod index) := by
  unfold State.testPeriod; split
  · exact ((h.withIu _).raise _).note _
  · exact h

theorem closeInterval (v : Interval) (assessed : Bool) : s.Raises (t.closeInterval v assessed) := by
  cases assessed
  · exact ((h.logRecord _ _).raise _).pushRecord _ _
  · exact ((((h.logRecord _ _).withIu _).raise _).pushRecord _ _).testPeriod _

theorem closeClosing : s.Raises t.closeClosing := by
  unfold State.closeClosing; split
  · exact h
  · exact (h.withIu _).closeInterval _ _

theorem assignSegment (d : SegmentDelivery) (event mixed : Bool) : s.Raises (t.assignSegment d event mixed) := by
  unfold State.assignSegment; split
  · split <;> exact h.withIu _
  · exact h.withIu _

theorem intervalBoundary (before : Bool) (seg : Option SegmentDelivery) (mixed : Bool) :
    s.Raises (t.intervalBoundary before seg mixed) := by
  unfold State.intervalBoundary; dsimp only; split
  · exact (h.withIu _).closeClosing
  · exact ((h.assignSegment _ _ _).withIu _).closeClosing

/-! ### Boundaries (Machine/Boundary.lean) -/

theorem takeSwitch : s.Raises t.takeSwitch := by
  unfold State.takeSwitch; split
  · exact h
  · exact ((h.withPs _).withEt _).raise _

theorem firstRefreshed (delivered : Bool) : s.Raises (t.firstRefreshed delivered) := by
  unfold State.firstRefreshed; split
  · exact h.withCc _
  · exact h

theorem trackerBoundary (d : Decision) : s.Raises (t.trackerBoundary d) := (h.withCt _).raiseIf _ _

end State.Raises

/-! ## A boundary handed on (R23, R26) -/

theorem State.noteBoundary_forced {d : Decision} (hk : d.kind = .synthetic) (s : State) (segment : Bool) :
    .forcedBoundary ∈ (s.noteBoundary d segment).out.occurred := by
  cases segment <;> simp [State.noteBoundary, hk]

/-- The state u of the boundary as the Cycle Tracker finds it, pairs applied and rows noted, and what the blocks after
the tracker leave of its step. -/
theorem State.handOn_tracker (s : State) (d : Decision) :
    ∃ u : State, u.ct = s.ct ∧ u.cc.table = s.cc.applyPairs.table ∧
      (d.kind = .synthetic → .forcedBoundary ∈ u.out.occurred) ∧
      (s.handOn d).ct = (u.trackerBoundary d).ct ∧ (s.handOn d).cc = u.cc ∧ (s.handOn d).re = u.re ∧
      (s.handOn d).ps = u.ps ∧ (u.trackerBoundary d).Raises (s.handOn d) := by
  have refreshed : ∀ (v : State) b, (v.firstRefreshed b).cc.table = v.cc.table := fun v b => by
    unfold State.firstRefreshed; split <;> rfl
  have switched : ∀ (v : State) (c : Bool), v.Raises (if c then v.takeSwitch else v) := fun v c => by
    cases c
    · exact .refl v
    · exact (State.Raises.refl v).takeSwitch
  refine ⟨_, ?_, ?_, fun hk => ?_, ?_, ?_, ?_, ?_,
    (((State.Raises.refl _).captureBoundary _).eventsAtBoundary _ _ _).intervalBoundary _ _ _⟩
  · rw [(State.firstRefreshed_frame _ _).2.1]; split <;> simp
  · rw [refreshed]; split <;> simp [State.pairsAtBoundary]
  · exact ((switched _ _).firstRefreshed _).1 _ (State.noteBoundary_forced hk _ _)
  all_goals simp [State.handOn]

/-- The tracker takes the boundary with the reference that the state after it chooses (R18, R27). -/
theorem State.handOn_ct (s : State) (d : Decision) :
    (s.handOn d).ct = s.ct.boundary d (s.handOn d).chooseReference := by
  obtain ⟨u, hct, -, -, ht, hcc, hre, hps, -⟩ := s.handOn_tracker d
  rw [ht, State.chooseReference_congr (congrArg _ hcc) hre hps, ← hct]
  simp [State.trackerBoundary]

/-- An entry to HOLD raises TRACKER_HOLD (R27). -/
theorem State.handOn_trackerHold (s : State) (d : Decision)
    (h : s.ct.entersHold d.kind (s.handOn d).chooseReference = true) : (s.handOn d).requested .trackerHold := by
  obtain ⟨u, hct, -, -, -, hcc, hre, hps, hr⟩ := s.handOn_tracker d
  rw [State.chooseReference_congr (congrArg _ hcc) hre hps, ← hct] at h
  refine hr.2 _ ?_
  simp only [State.trackerBoundary, h]
  exact State.requested_raise _ _

/-- A forced boundary is noted (R22). -/
theorem State.handOn_forced (s : State) {d : Decision} (hk : d.kind = .synthetic) :
    .forcedBoundary ∈ (s.handOn d).out.occurred := by
  obtain ⟨u, -, -, hf, -, -, -, -, hr⟩ := s.handOn_tracker d
  exact hr.1 _ (((State.Raises.refl u).trackerBoundary d).1 _ (hf hk))

/-- No pair is pending after a boundary (R6, R24). -/
theorem State.handOn_awaiting (s : State) (d : Decision) (i : Fin 8) : (s.handOn d).cc.table[i].awaiting = none := by
  obtain ⟨u, -, htab, -, -, hcc, -, -, -⟩ := s.handOn_tracker d
  simp only [hcc, htab, Conditioner.applyPairs, Fin.getElem_fin, Vector.getElem_map, ChannelEntry.applyPair]
  split
  · assumption
  · rfl

/-! ## A consecutive frame in ALIGNED (R157, R8) -/

/-- An advance moves device time by one tick (R168). -/
theorem State.advance_now (s : State) : s.advance.tb.now = s.tb.now.next := by
  have count : ∀ u : State, u.testCountdown.tb.now = u.tb.now := by
    intro u; unfold State.testCountdown; dsimp only; split <;> rfl
  unfold State.advance
  dsimp only
  split
  · next hc => exact (beq_iff_eq.mp hc).symm
  · simp [count]

/-- A frame record that decides a boundary hands it on. -/
theorem State.trackFrame_decided {s : State} {r : FrameRecord} {d : Decision}
    (hd : (s.ct.frame s.bandOf (s.ct.sample r) s.ps.nominalHalf).2 = some d) :
    s.trackFrame r = (s.withCt (s.ct.frame s.bandOf (s.ct.sample r) s.ps.nominalHalf).1).handOn d := by
  unfold State.trackFrame
  simp only [hd]

/-- While measuring, a frame that decides a boundary hands it on: the tracker as the frame has left it, but for its late
times (R19 to R23). -/
theorem State.dataFrame_decided (s : State) (f : FrameContent) (subst : Bool) {d : Decision} (hm : s.Measuring)
    (hd : (s.ct.frame s.bandOf (s.ct.sample (s.cc.record f subst)) s.ps.nominalHalf).2 = some d) :
    ∃ (u : State) (l : List DeviceTime), s.dataFrame f subst = u.handOn d ∧
      u.ct = { (s.ct.frame s.bandOf (s.ct.sample (s.cc.record f subst)) s.ps.nominalHalf).1 with lateTimes := l } := by
  have measuring : s.cc.measurement.measuring = true := by
    rcases hm with h | h <;> rw [h] <;> rfl
  obtain ⟨l, hl⟩ := s.ct.stamp_eq s.tb.now
  let r := s.cc.record f subst
  let v := ((s.withCe (s.ce.ringEntry r.samples s.tb.now)).captureEntry r.samples s.tb.now).withRe
    (s.re.take s.ct.position r)
  let w := (v.withCc (s.cc.keep s.ct.position f s.tb.now)).withCt { s.ct with lateTimes := l }
  have hw : s.dataFrame f subst = w.trackFrame r := by
    unfold State.dataFrame
    rw [if_pos measuring]
    simp [hl, w, v, r]
  have hframe : w.ct.frame w.bandOf (w.ct.sample r) w.ps.nominalHalf =
      ({ (s.ct.frame s.bandOf (s.ct.sample r) s.ps.nominalHalf).1 with lateTimes := l },
        (s.ct.frame s.bandOf (s.ct.sample r) s.ps.nominalHalf).2) := by
    have hband : w.bandOf = s.bandOf := by simp [State.bandOf, w, v]
    have hps : w.ps = s.ps := by simp [w, v]
    rw [hband, hps]
    exact Tracker.frame_lateTimes _ _ _ _ _
  exact ⟨_, l, hw.trans (State.trackFrame_decided (by rw [hframe]; exact hd)), by rw [hframe]; rfl⟩

/-- A consecutive frame in ALIGNED is taken, with no frame patched before it (R157). -/
theorem State.inboundFrame_consecutive {s : State} {f : InboundFrame} (ha : s.Aligned) (hc : s.Consecutive f) :
    ∃ x, s.begin.inboundFrame f =
      State.withFl ((s.begin.grouping []).takeData (frameContent f) false f.aux) x := by
  obtain ⟨hrun, -, hlane⟩ := ha
  obtain ⟨last, hlast, hseq⟩ := hc
  have hone : (f.seq - last).toNat = 0 + 1 := by
    rw [hseq]; bv_omega
  have hdiff : (s.begin.grouping []).fl.difference f.seq = 0 + 1 := by
    simp only [State.grouping, State.begin_fl, State.withFl_fl, FrameLink.difference, hlast, hone]
  have aligned : s.begin.inboundFrame f = (s.begin.grouping []).alignedFrame f := by
    simp [State.inboundFrame, State.goodFrame, State.grouping, hrun, hlane]
  rw [aligned, State.alignedFrame, hdiff]
  exact ⟨_, rfl⟩

/-- A consecutive frame that decides a boundary, while measuring: the step hands the boundary on one tick later. -/
theorem State.inboundFrame_decided {s : State} {f : InboundFrame} {d : Decision} (ha : s.Aligned)
    (hc : s.Consecutive f) (hm : s.Measuring) (hd : s.decides f = some d) :
    ∃ (u : State) (x : FrameLink) (l : List DeviceTime), s.begin.inboundFrame f = (u.handOn d).withFl x ∧
      u.tb.now = s.tb.now.next ∧
      u.ct = { (s.ct.frame s.bandOf (s.ct.sample (s.cc.record (frameContent f) false)) s.ps.nominalHalf).1 with
        lateTimes := l } := by
  obtain ⟨x, hx⟩ := State.inboundFrame_consecutive ha hc
  let v := ((s.begin.grouping []).advance).forwardData (frameContent f) false f.aux
  have hct : v.ct = s.ct := by simp [v, State.grouping]
  have hcc : v.cc = s.cc := by simp [v, State.grouping]
  have hps : v.ps = s.ps := by simp [v, State.grouping]
  have hnow : v.tb.now = s.tb.now.next := by simp [v, State.advance_now, State.grouping]
  obtain ⟨u, l, hu, hl⟩ := v.dataFrame_decided (frameContent f) false (d := d)
    (by simpa [State.Measuring, hcc] using hm) (by simpa [State.decides, State.bandOf, hct, hcc, hps] using hd)
  refine ⟨u, x, l, by rw [hx, ← hu]; rfl, ?_, by simpa [State.bandOf, hct, hcc, hps] using hl⟩
  have htb : (v.dataFrame (frameContent f) false).tb = (u.handOn d).tb := by rw [hu]
  simpa [hnow] using (congrArg (·.now) htb).symm

/-! ## The tracker's state after a boundary (R27) -/

theorem Tracker.nextState_synthetic (t : Tracker) (r : Option Phase) :
    t.nextState .synthetic r = if t.state = .acquire then .acquire else .hold := by
  unfold Tracker.nextState; cases t.state <;> rfl

theorem Tracker.nextState_accepted (t : Tracker) (r : Option Phase) :
    t.nextState .accepted r =
      if t.state = .locked then (if r.isSome then .locked else .hold)
      else if t.nextRun .accepted = 2 ∧ r.isSome then .locked else t.state := by
  unfold Tracker.nextState; cases t.state <;> cases r <;> simp

/-- LOCKED giving way to HOLD is an entry to HOLD. -/
theorem Tracker.entersHold_of_locked {t : Tracker} {k : BoundaryKind} {r : Option Phase} (hl : t.state = .locked)
    (hh : t.nextState k r = .hold) : t.entersHold k r = true := by
  simp [Tracker.entersHold, hl, hh]

/-! ## Forced boundaries and accepted crossings: O17 -/

/-- The row FORCED_BOUNDARY happens with a frame that decides a force (R22). -/
theorem State.exec_forcedBoundary {s u : State} {f : InboundFrame} {d : Decision} {x : FrameLink}
    (hk : d.kind = .synthetic) (h : s.begin.inboundFrame f = (u.handOn d).withFl x) :
    exec (.forcedBoundary f) s = .next ((u.handOn d).withFl x) := by
  rcases s.happening_cases .forcedBoundary ((u.handOn d).withFl x) with ⟨-, e⟩ | ⟨e, -⟩
  · rw [← e, ← h]; rfl
  · exact absurd (u.handOn_forced hk) e

/-- Settles O17: the frame's decision is a force or an accepted crossing, and the boundary is handed on with it. -/
theorem forcedBoundaryIsPlaced : Obligations.ForcedBoundaryIsPlaced := by
  unfold Obligations.ForcedBoundaryIsPlaced
  constructor
  · -- a forced boundary
    intro s f d ha hc hm hd hk
    obtain ⟨u, x, l, hstep, hnow, hct⟩ := State.inboundFrame_decided ha hc hm hd
    obtain ⟨p, c, e, hframe, hearly, hlate, hpos, hat⟩ := Tracker.frame_synthetic hd hk
    rw [hframe] at hct
    have hnew := (u.handOn_ct d).trans (Tracker.boundary_eq _ _ _)
    refine ⟨_, State.exec_forcedBoundary hk hstep, ?_, ?_, ?_, ?_, fun hl => ?_, ?_, by simpa using hnow,
      u.handOn_awaiting d, hpos, hpos ▸ hlate, fun hl => by simpa [hl] using hat, fun hl he => ?_, fun hl he => ?_⟩
    · simp [hnew, hk, Tracker.nextRun]
    · simp [hnew]
    · simp [hnew]
    · simp [hnew, hk, Tracker.nextState_synthetic, hct]
    · refine u.handOn_trackerHold d (Tracker.entersHold_of_locked (by simp [hct, hl]) ?_)
      simp [hk, Tracker.nextState_synthetic, hct, hl]
    · simp [hnew, hk, Tracker.nextLastGood, hct]
    · rcases hearly with rfl | ⟨rfl, -⟩ <;> simpa [hl, he] using hat
    · rcases hearly with rfl | ⟨rfl, hcross⟩
      · exact .inl (by simpa [hl, he] using hat)
      · exact .inr ⟨by simpa [hl] using hat, hcross⟩
  · -- an accepted crossing
    intro s f d ha hc hm hd hk
    obtain ⟨u, x, l, hstep, -, hct⟩ := State.inboundFrame_decided ha hc hm hd
    obtain ⟨v, side, n, hv, hside, hcand, hn, hbeyond, hfrom, hpos, hframe⟩ := Tracker.frame_accepted hd hk
    obtain ⟨p, y, href, hscale, rfl, hband⟩ := State.sample_eq_some hv
    rw [hband] at hbeyond
    rw [hframe] at hct
    have hnew := (u.handOn_ct d).trans (Tracker.boundary_eq _ _ _)
    have hreference : (u.handOn d).ct.reference = (u.handOn d).chooseReference := by rw [hnew]
    have hstate : (u.handOn d).ct.state = u.ct.nextState .accepted (u.handOn d).ct.reference := by simp [hnew, hk]
    have hrun : (u.handOn d).ct.acceptedRun = u.ct.nextRun .accepted := by simp [hnew, hk]
    have huState : u.ct.state = s.ct.state := by rw [hct]
    have hexec : exec (.goodInboundFrame f) s = .next ((u.handOn d).withFl x) := congrArg Host.Outcome.next hstep
    obtain ⟨hl1, hl2, hl3⟩ := (u.handOn d).chooseReference_iff
    rw [← hreference] at hl1 hl2 hl3
    refine ⟨_, hexec, hfrom, hpos, ⟨p, side, y, n, href, hside, hscale, hcand, hn, fun hs => ?_, fun hs => ?_,
      ?_⟩, ?_, ?_, ?_, ?_, ?_, hl1, hl2, hl3, fun hl => ?_, fun hl => ?_, fun hl hh => ?_, fun hs => ?_,
      fun m hs hlt => ?_⟩
    · exact (beyondBand_negative_iff _ _).mp (by simpa [hs, Side.opposite] using hbeyond)
    · exact (beyondBand_positive_iff _ _).mp (by simpa [hs, Side.opposite] using hbeyond)
    · simp only [State.withFl_ct, hnew, hct]
      cases side <;> rfl
    · simp [hnew, hct, Candidate.carry]
    · simp [hnew]
    · simp [hnew]
    · simp [hrun, hct, Tracker.nextRun, saturatingSucc]
    · simp [hnew, hct, hk, Tracker.nextLastGood]
    · exact hstate.trans ((Tracker.nextState_accepted _ _).trans (if_pos (huState.trans hl)))
    · simp [hstate, Tracker.nextState_accepted, huState, hl, hrun]
    · refine u.handOn_trackerHold d (Tracker.entersHold_of_locked (huState.trans hl) ?_)
      rw [hk, ← hreference, ← hstate]
      exact hh
    · have hcount := Tracker.countSegment_first (t := u.ct) (by simpa [hct] using hs) d
      simp [hnew, hcount, hk]
    · have hcount := Tracker.countSegment_within (t := u.ct) (n := m) (by simpa [hct] using hs)
        (by simpa [hct] using hlt) d
      simp only [State.withFl_ct, hnew, hcount, hk]
      simp [hct]

end Sys2Proof.Machine
end

section
/-! RMS arithmetic: the search for the root by the exact test, and the statement that it rounds the root half up. -/

namespace Sys2Proof.Machine

/-! ## The exact test (R37) -/

/-- The starts N(2r − 1)² of R37's intervals rise with r; the one of r = 0 is 0, as the subtraction stops there. -/
theorem exactTest_mono (n : Nat) {a b : Nat} (h : a ≤ b) : n * (2 * a - 1) ^ 2 ≤ n * (2 * b - 1) ^ 2 :=
  Nat.mul_le_mul_left n (Nat.pow_le_pow_left (by omega) 2)

/-- The search keeps the root in the 2^bits values from r on, so that it ends on the greatest that passes the test. -/
theorem le_rootSearch_iff {q n : Nat} (m : Nat) : ∀ (bits r : Nat), n * (2 * r - 1) ^ 2 ≤ 4 * q →
    4 * q < n * (2 * (r + 2 ^ bits) - 1) ^ 2 → (m ≤ rootSearch q n bits r ↔ n * (2 * m - 1) ^ 2 ≤ 4 * q) := by
  intro bits
  induction bits with
  | zero =>
    intro r hlow hhigh
    refine ⟨fun hm => Nat.le_trans (exactTest_mono n hm) hlow, fun hpass => Nat.le_of_not_lt fun hm => ?_⟩
    have hreach : n * (2 * (r + 2 ^ 0) - 1) ^ 2 ≤ 4 * q := Nat.le_trans (exactTest_mono n hm) hpass
    exact Nat.not_le_of_lt hhigh hreach
  | succ bits ih =>
    intro r hlow hhigh
    unfold rootSearch
    split
    · next hpass => exact ih _ hpass (by rwa [Nat.add_assoc, ← Nat.two_mul, ← Nat.pow_succ'])
    · next hfail => exact ih _ hlow (Nat.lt_of_not_le hfail)

/-- No root reaches the bound the search begins under. -/
theorem exactTest_fails_at_start {n : Nat} (hn : 1 ≤ n) (q : Nat) :
    4 * q < n * (2 * (0 + 2 ^ (Nat.log2 (4 * q) + 1)) - 1) ^ 2 := by
  have hlog : 4 * q < 2 ^ (Nat.log2 (4 * q) + 1) := Nat.lt_log2_self
  generalize 2 ^ (Nat.log2 (4 * q) + 1) = b at hlog ⊢
  calc 4 * q < 2 * (0 + b) - 1 := by omega
    _ ≤ (2 * (0 + b) - 1) ^ 2 := Nat.le_pow (by decide)
    _ ≤ n * (2 * (0 + b) - 1) ^ 2 := Nat.le_mul_of_pos_left _ hn

/-- The root is the greatest value that passes the lower comparison of R37. -/
theorem le_exactRoot_iff {n : Nat} (hn : 1 ≤ n) (q m : Nat) :
    m ≤ exactRoot q n ↔ n * (2 * m - 1) ^ 2 ≤ 4 * q :=
  le_rootSearch_iff m _ 0 (Nat.zero_le _) (exactTest_fails_at_start hn q)

/-- The root is the least value that meets the upper comparison of R37. -/
theorem exactRoot_le_iff {n : Nat} (hn : 1 ≤ n) (q m : Nat) :
    exactRoot q n ≤ m ↔ 4 * q < n * (2 * m + 1) ^ 2 := by
  have hnext : m + 1 ≤ exactRoot q n ↔ n * (2 * m + 1) ^ 2 ≤ 4 * q := le_exactRoot_iff hn q (m + 1)
  omega

/-- Settles O47: with the root as the greatest value that passes the lower comparison, each row of R37 and the one root
of the second row are instances of the two equivalences. -/
theorem exactTestRoundsTheRoot : Obligations.ExactTestRoundsTheRoot := by
  intro q n hn
  refine ⟨fun hsmall => ?_, fun hlarge => ⟨?_, ?_, ?_, fun r _ hlow hhigh => ?_⟩⟩
  · exact Nat.le_zero.mp ((exactRoot_le_iff hn q 0).mpr (by omega))
  · exact (le_exactRoot_iff hn q 1).mpr (by omega)
  · exact (le_exactRoot_iff hn q _).mp (Nat.le_refl _)
  · exact (exactRoot_le_iff hn q _).mp (Nat.le_refl _)
  · exact Nat.le_antisymm ((le_exactRoot_iff hn q r).mpr hlow) ((exactRoot_le_iff hn q r).mpr hhigh)

end Sys2Proof.Machine
end

section
/-! Threshold profiles: what SET PROFILE, SELECT WRITE SET and SWITCH PROFILE do to a free part, when a set is in order,
what a write leaves in each item of a set, and the two statements on them. -/

namespace Sys2Proof.Machine

/-! ## Selectors, phases and fields (R179, R181) -/

theorem setOfSelector_code {sel : BitVec 16} {n : SetName} (h : sel.toNat = n.code) : setOfSelector sel = some n := by
  cases n <;> simp [setOfSelector, h, SetName.code]

theorem setOfSelector_other {sel : BitVec 16} (ha : sel ≠ 1#16) (hb : sel ≠ 2#16) : setOfSelector sel = none := by
  have hna : sel.toNat ≠ 1 := fun h => ha (BitVec.eq_of_toNat_eq h)
  have hnb : sel.toNat ≠ 2 := fun h => hb (BitVec.eq_of_toNat_eq h)
  simp [setOfSelector, hna, hnb]

theorem Phase.forall_iff {P : Phase → Prop} : (∀ p, P p) ↔ P .l1 ∧ P .l2 ∧ P .l3 :=
  ⟨fun h => ⟨h .l1, h .l2, h .l3⟩, fun ⟨h1, h2, h3⟩ p => by cases p <;> assumption⟩

@[simp] theorem PerPhase.of_get {α : Type} (g : Phase → α) (p : Phase) : (PerPhase.of g).get p = g p := by
  cases p <;> rfl

theorem PerPhase.any_iff (v : PerPhase Bool) : v.any = true ↔ ∃ p, v.get p = true := by
  constructor
  · intro h
    simp only [PerPhase.any, Bool.or_eq_true] at h
    rcases h with (h | h) | h
    · exact ⟨.l1, h⟩
    · exact ⟨.l2, h⟩
    · exact ⟨.l3, h⟩
  · rintro ⟨p, h⟩
    cases p <;> simp_all [PerPhase.any, PerPhase.get]

theorem clampedTo_clampedOr (lo hi : Nat) (v : Option (BitVec 24)) (old : Nat) :
    ClampedTo lo hi v old (clampedOr lo hi v old) := by
  refine ⟨fun h => ?_, fun x h => ?_⟩ <;> rw [h] <;> rfl

/-! ## A set in order, and a write of a set (R52, R53) -/

theorem PhaseThresholds.ordered_iff (x : PhaseThresholds) :
    x.ordered = true ↔ x.intStart < x.intEnd ∧ x.intEnd ≤ x.dipStart ∧ x.dipStart < x.dipEnd ∧ x.dipEnd ≤ 1000 ∧
      1000 ≤ x.swellEnd ∧ x.swellEnd < x.swellStart := by
  simp only [PhaseThresholds.ordered, Bool.and_eq_true, decide_eq_true_eq, and_assoc]

theorem ThresholdSet.ordered_iff (x : ThresholdSet) :
    x.ordered = true ↔
      (∀ p, (x.phase.get p).ordered = true) ∧ x.bandLow < x.bandHigh ∧ ∃ p, x.mask.get p = true := by
  rw [Phase.forall_iff, ← PerPhase.any_iff]
  simp only [ThresholdSet.ordered, Bool.and_eq_true, decide_eq_true_eq, and_assoc, PerPhase.get]

/-- A phase channel that is not selected keeps its fields (R51). -/
theorem ThresholdSet.write_phase_unselected (x : ThresholdSet) (f : ProfileFields) {ps : List Phase} {p : Phase}
    (h : p ∉ ps) : (x.write f ps).phase.get p = x.phase.get p := by
  simp [ThresholdSet.write, h]

theorem ThresholdSet.write_phase_selected (x : ThresholdSet) (f : ProfileFields) {ps : List Phase} {p : Phase}
    (h : p ∈ ps) : (x.write f ps).phase.get p = (x.phase.get p).write f := by
  simp [ThresholdSet.write, h]

theorem ThresholdSet.write_nominal (x : ThresholdSet) {f : ProfileFields} (ps : List Phase) {v : BitVec 24}
    {n : NominalFrequency} (hf : f.nominal = some v) (hv : nominalOfCode v = some n) :
    (x.write f ps).nominal = n := by
  simp [ThresholdSet.write, hf, hv]

/-! ## Commands that reach a free part (R182) -/

namespace State

variable {s : State} (h : s.Free)
include h

theorem refuse_free (code : Nat) (st : Status) :
    s.begin.beginExecution.refuse code st = s.begin.answered code st [] :=
  s.answer_free h code st []

/-- An execution that has written the Profile Store and is answered DONE. -/
theorem withPs_done_free (p : ProfileStore) (code : Nat) (ws : List Nat) :
    (s.begin.beginExecution.withPs p).done code ws = (s.begin.withPs p).answered code .done ws :=
  (s.withPs p).answer_free h code .done ws

theorem exec_setProfile_free (sel : BitVec 16) (f : ProfileFields) :
    exec (.setProfile sel f) s = .next (s.begin.beginExecution.doSetProfile sel f) :=
  congrArg Host.Outcome.next (s.receive_free h 6 _)

theorem exec_selectWriteSet_free (sel : BitVec 16) :
    exec (.selectWriteSet sel) s = .next (s.begin.beginExecution.doSelectWriteSet sel) :=
  congrArg Host.Outcome.next (s.receive_free h 8 _)

theorem exec_switchProfile_free (sel : BitVec 16) :
    exec (.switchProfile sel) s = .next (s.begin.beginExecution.doSwitchProfile sel) :=
  congrArg Host.Outcome.next (s.receive_free h 9 _)

end State

/-! ## SET PROFILE: O34 -/

/-- The first test of R51: a selector that names no phase channel. -/
theorem State.doSetProfile_noPhases (s : State) {sel : BitVec 16} (f : ProfileFields)
    (hsel : phasesOfSelector sel = none) : s.doSetProfile sel f = s.refuse 6 .invalid := by
  simp [State.doSetProfile, hsel]

section

variable (s : State) {sel : BitVec 16} {f : ProfileFields} {ps : List Phase} (hsel : phasesOfSelector sel = some ps)
include hsel

theorem State.doSetProfile_unlisted (hn : listed nominalOfCode f.nominal = false) :
    s.doSetProfile sel f = s.refuse 6 .invalid := by
  simp [State.doSetProfile, hsel, hn]

theorem State.doSetProfile_activeSet (hn : listed nominalOfCode f.nominal = true) (hw : s.ps.write = s.ps.active) :
    s.doSetProfile sel f = s.refuse 6 .state := by
  simp [State.doSetProfile, hsel, hn, hw]

theorem State.doSetProfile_disordered (hn : listed nominalOfCode f.nominal = true) (hw : s.ps.write ≠ s.ps.active)
    (ho : ((s.ps.get s.ps.write).write f ps).ordered = false) : s.doSetProfile sel f = s.refuse 6 .invalid := by
  simp [State.doSetProfile, hsel, hn, hw, ho]

/-- A write that passes every test (R51 to R54). -/
theorem State.doSetProfile_accepted (hn : listed nominalOfCode f.nominal = true) (hw : s.ps.write ≠ s.ps.active)
    (ho : ((s.ps.get s.ps.write).write f ps).ordered = true) :
    s.doSetProfile sel f = (s.withPs (s.ps.put s.ps.write ((s.ps.get s.ps.write).write f ps))).done 6
      ((s.ps.put s.ps.write ((s.ps.get s.ps.write).write f ps)).setWords ps) := by
  simp [State.doSetProfile, hsel, hn, hw, ho]

end

/-- Settles O34: the execution of a free part test by test, the order of a set, and the write item by item. -/
theorem setProfileWritesTheSet : Obligations.SetProfileWritesTheSet := by
  unfold Obligations.SetProfileWritesTheSet
  refine ⟨fun s sel f h => ?_, fun x => ?_, fun x y f ps hy => ?_⟩
  · -- the tests in order
    rw [State.exec_setProfile_free h, ← State.refuse_free h 6 .invalid, ← State.refuse_free h 6 .state]
    refine ⟨fun hsel => congrArg _ (State.doSetProfile_noPhases _ f hsel), fun ps hsel => ⟨fun hn => ?_, fun hn hw => ?_,
      fun hn hw => ⟨fun ho => ?_, fun ho => ?_⟩⟩⟩
    · exact congrArg _ (State.doSetProfile_unlisted _ hsel hn)
    · exact congrArg _ (State.doSetProfile_activeSet _ hsel hn hw)
    · exact congrArg _ (State.doSetProfile_disordered _ hsel hn hw ho)
    · rw [← State.withPs_done_free h]
      exact congrArg _ (State.doSetProfile_accepted _ hsel hn hw ho)
  · -- a set in order
    simp only [ThresholdSet.ordered_iff, PhaseThresholds.ordered_iff]
  · -- the items of the set written
    subst hy
    refine ⟨fun hf => ?_, fun hf => x.write_nominal ps hf rfl, fun hf => x.write_nominal ps hf rfl, fun hf => ?_,
      fun v hf => ?_, clampedTo_clampedOr _ _ _ _, clampedTo_clampedOr _ _ _ _, clampedTo_clampedOr _ _ _ _,
      fun p => ⟨x.write_phase_unselected f, fun hp => ?_⟩⟩
    · simp [ThresholdSet.write, hf]
    · simp [ThresholdSet.write, hf]
    · simp [ThresholdSet.write, hf, maskOfCode]
    · rw [x.write_phase_selected f hp]
      simp [PhaseThresholds.write, clampedTo_clampedOr]

/-! ## SELECT WRITE SET and SWITCH PROFILE: O35 -/

theorem ProfileStore.pointerWords_none {p : ProfileStore} (h : p.switchTo = none) :
    p.pointerWords = [0, p.write.code, p.active.code] := by
  simp [ProfileStore.pointerWords, h, optional, presence, bitNat]

theorem ProfileStore.pointerWords_some {p : ProfileStore} {m : SetName} (h : p.switchTo = some m) :
    p.pointerWords = [1, p.write.code, p.active.code, m.code] := by
  simp [ProfileStore.pointerWords, h, optional, presence, bitNat]

theorem State.doSelectWriteSet_named (s : State) {sel : BitVec 16} {n : SetName} (hsel : sel.toNat = n.code) :
    s.doSelectWriteSet sel =
      (s.withPs { s.ps with write := n }).done 8 ({ s.ps with write := n } : ProfileStore).pointerWords := by
  simp [State.doSelectWriteSet, setOfSelector_code hsel]

theorem State.doSelectWriteSet_other (s : State) {sel : BitVec 16} (ha : sel ≠ 1#16) (hb : sel ≠ 2#16) :
    s.doSelectWriteSet sel = s.refuse 8 .invalid := by
  simp [State.doSelectWriteSet, setOfSelector_other ha hb]

/-- The active set as target leaves no switch pending (R57). -/
theorem State.doSwitchProfile_active (s : State) {sel : BitVec 16} (hsel : sel.toNat = s.ps.active.code) :
    s.doSwitchProfile sel =
      (s.withPs { s.ps with switchTo := none }).done 9 [0, s.ps.write.code, s.ps.active.code] := by
  simp [State.doSwitchProfile, setOfSelector_code hsel, ProfileStore.pointerWords_none]

/-- The other set as target becomes the pending switch (R57). -/
theorem State.doSwitchProfile_inactive (s : State) {sel : BitVec 16} {n : SetName} (hsel : sel.toNat = n.code)
    (hn : n ≠ s.ps.active) :
    s.doSwitchProfile sel =
      (s.withPs { s.ps with switchTo := some n }).done 9 [1, s.ps.write.code, s.ps.active.code, n.code] := by
  simp [State.doSwitchProfile, setOfSelector_code hsel, hn, ProfileStore.pointerWords_some (m := n)]

theorem State.doSwitchProfile_other (s : State) {sel : BitVec 16} (ha : sel ≠ 1#16) (hb : sel ≠ 2#16) :
    s.doSwitchProfile sel = s.refuse 9 .invalid := by
  simp [State.doSwitchProfile, setOfSelector_other ha hb]

/-- Settles O35: each command's execution by a free part, answered with the pointers as it has left them. -/
theorem setPointersMove : Obligations.SetPointersMove := by
  unfold Obligations.SetPointersMove
  intro s sel n h
  rw [State.exec_selectWriteSet_free h, State.exec_switchProfile_free h, ← State.refuse_free h 8 .invalid,
    ← State.refuse_free h 9 .invalid]
  refine ⟨fun hsel => ?_, fun ha hb => congrArg _ (State.doSelectWriteSet_other _ ha hb), fun hsel hn => ?_,
    fun hsel hn => ?_, fun ha hb => congrArg _ (State.doSwitchProfile_other _ ha hb)⟩
  · rw [← State.withPs_done_free h, State.doSelectWriteSet_named _ hsel]
    cases hswitch : s.ps.switchTo with
    | none => exact congrArg _ (congrArg _ (ProfileStore.pointerWords_none hswitch))
    | some m => exact congrArg _ (congrArg _ (ProfileStore.pointerWords_some hswitch))
  · subst hn
    rw [← State.withPs_done_free h]
    exact congrArg _ (State.doSwitchProfile_active _ hsel)
  · rw [← State.withPs_done_free h]
    exact congrArg _ (State.doSwitchProfile_inactive _ hsel hn)

end Sys2Proof.Machine
end

section
/-! Event detection: a detector's test row by row, one equation per present state, and the statement of the table. -/

namespace Sys2Proof.Machine

/-! ## The detector table, a row per present state (R65): O49 -/

theorem Detector.test_normal (v : Levels) (r : Nat) :
    Detector.normal.test v r =
      if r < v.intStart then .intr else if r < v.dipStart then .dip else if v.swellStart < r then .swell
        else .normal := rfl

/-- A dip may turn into a swell before it ends: the swell test stands before that of the dip's end. -/
theorem Detector.test_dip (v : Levels) (r : Nat) :
    Detector.dip.test v r =
      if r < v.intStart then .intr else if v.swellStart < r then .swell else if v.dipEnd ≤ r then .normal
        else .dip := rfl

/-- An interruption is left for a dip below the dip's end, not below its start. -/
theorem Detector.test_intr (v : Levels) (r : Nat) :
    Detector.intr.test v r =
      if r < v.intEnd then .intr else if r < v.dipEnd then .dip else if v.swellStart < r then .swell
        else .normal := rfl

theorem Detector.test_swell (v : Levels) (r : Nat) :
    Detector.swell.test v r =
      if r < v.intStart then .intr else if r < v.dipStart then .dip else if r ≤ v.swellEnd then .normal
        else .swell := rfl

/-- Settles O49: the four rows of the table, each the test's own equation at that state. -/
theorem detectorFollowsItsTable : Obligations.DetectorFollowsItsTable := by
  unfold Obligations.DetectorFollowsItsTable
  intro v r
  exact ⟨Detector.test_normal v r, Detector.test_dip v r, Detector.test_intr v r, Detector.test_swell v r⟩

end Sys2Proof.Machine
end
